-- ==== Sys2Proof/Word.lean ====
section
/-! DEFINITION. Bytes and the fixed runs of bytes that payload layouts name (00_scope.md R9, R11; 30_encoding.md R70, R77, R78, R80). -/

namespace Sys2Proof

/-- A `Byte` is 8 bits (R9). -/
abbrev Byte := BitVec 8

/-- Four bytes in payload order: bytes 4 to 7 of an initiate frame (R77). -/
structure Bytes4 where
  b0 : Byte
  b1 : Byte
  b2 : Byte
  b3 : Byte
  deriving DecidableEq, Repr, Inhabited

/-- Five bytes in payload order: bytes 3 to 7 of an EMCY payload (R80). -/
structure Bytes5 where
  b0 : Byte
  b1 : Byte
  b2 : Byte
  b3 : Byte
  b4 : Byte
  deriving DecidableEq, Repr, Inhabited

/-- Seven bytes in payload order: bytes 1 to 7 of a segment frame (R78). -/
structure Bytes7 where
  b0 : Byte
  b1 : Byte
  b2 : Byte
  b3 : Byte
  b4 : Byte
  b5 : Byte
  b6 : Byte
  deriving DecidableEq, Repr, Inhabited

/-- The data field of a raw frame, `data[0]` to `data[7]` (R70). -/
structure Bytes8 where
  b0 : Byte
  b1 : Byte
  b2 : Byte
  b3 : Byte
  b4 : Byte
  b5 : Byte
  b6 : Byte
  b7 : Byte
  deriving DecidableEq, Repr, Inhabited

end Sys2Proof
end

