-- ==== Sys2Proof/Syntax.lean ====
section
/-! DEFINITION. The values the ports carry (00_scope.md R11, 30_encoding.md R70 and R85, 45_host_commands.md R240) and
`Instr`, one constructor per row of spec/opcode_table.json. -/

namespace Sys2Proof

/-! ## Typed protocol values (R11, R160) -/

/-- `NmtFunction` of R11. -/
inductive NmtFunction where
  | startRemoteNode
  | stopRemoteNode
  | enterPreOperational
  | resetNode
  | resetCommunication
  deriving DecidableEq, Repr

/-- Direction of a PDO, seen from the node named in the identifier (R11, R72). -/
inductive PdoDir where
  | tx
  | rx
  deriving DecidableEq, Repr

/-- `PdoSlot` of R11 as a raw term; `1 <= num <= 4` is a check of R103. -/
structure PdoSlot where
  num : Nat
  dir : PdoDir
  deriving DecidableEq, Repr

/-- `SdoCommand` of R160: nine constructors, ten frame forms (`abort` goes both ways). -/
inductive SdoCommand where
  | initDownloadReq (n : BitVec 2) (e sInd : Bool) (index : BitVec 16) (sub : Byte) (d : Bytes4)
  | initUploadReq (index : BitVec 16) (sub : Byte)
  | downloadSegReq (t : Bool) (n : BitVec 3) (c : Bool) (d : Bytes7)
  | uploadSegReq (t : Bool)
  | abort (index : BitVec 16) (sub : Byte) (code : BitVec 32)
  | initDownloadRsp (index : BitVec 16) (sub : Byte)
  | initUploadRsp (n : BitVec 2) (e sInd : Bool) (index : BitVec 16) (sub : Byte) (d : Bytes4)
  | downloadSegRsp (t : Bool)
  | uploadSegRsp (t : Bool) (n : BitVec 3) (c : Bool) (d : Bytes7)
  deriving DecidableEq, Repr

/-- `Message` of R11 as a raw term: node numbers are 8 bits wide, as on the command port (R240), so that a value out
of range can be presented and refused; `Message.wf` is the check of R103. DESIGN CHOICE of widths, safe (log entry 9). -/
inductive Message where
  | nmt (function : NmtFunction) (targetNode : BitVec 8)
  | sync
  | emcy (node : BitVec 8) (code : BitVec 16) (register : Byte) (data : Bytes5)
  | pdo (node : BitVec 8) (slot : PdoSlot) (data : List Byte)
  | sdoRequest (node : BitVec 8) (command : SdoCommand)
  | sdoResponse (node : BitVec 8) (command : SdoCommand)
  | heartbeat (node : BitVec 8) (state : Byte)
  deriving DecidableEq, Repr

/-- `ClassificationError` of R11. -/
inductive ClassErr where
  | unknownFunctionCode
  | malformedPayload
  deriving DecidableEq, Repr

/-- `Kind` of R130. -/
inductive Kind where
  | nmt
  | sync
  | emcy
  | pdo (slot : PdoSlot)
  | sdoRsp
  | sdoReq
  | heartbeat
  deriving DecidableEq, Repr

/-! ## Frames and events -/

/-- Format `RAW` (R70): the value carried by `RX`, `TX`, `PARSE` and `PACK`. -/
structure RawFrame where
  id : BitVec 11
  dlc : BitVec 4
  data : Bytes8
  deriving DecidableEq, Repr

/-- The checked form of a raw frame (R11, R70); `len(payload) <= 8` holds of every value `parseRaw` gives and of every payload
of a well-formed message, and is not part of the type (DESIGN CHOICE, safe, log entry 20). -/
structure CanFrame where
  id : BitVec 11
  payload : List Byte
  deriving DecidableEq, Repr

/-- The value on the `CMD` port (R85): a 3-bit opcode and operands. Every operand stands on the port at once and the
opcode says which are read. DESIGN CHOICE, safe (log entry 8). -/
structure RawCmd where
  op : BitVec 3
  node : BitVec 8
  index : BitVec 16
  sub : Byte
  data : List Byte
  msg : Message
  deriving DecidableEq, Repr

/-- What a step consumes: the events of R190, the two combinational ports of R35, and reset (R291). That a use of `PARSE` or `PACK`
is delivered and takes a step of its own, beside the one kind of step of R7, is a DESIGN CHOICE, safe (log entry 24); reset as an
event is log entry 10. -/
inductive Event where
  | cmd (c : RawCmd)
  | rx (r : RawFrame)
  | timeout
  | rxIoError
  | parse (r : RawFrame)
  | pack (m : Message)
  | reset
  deriving DecidableEq, Repr

/-- An event and the bus's verdict `tx_ok` on the frame its step may offer (R190). -/
structure Delivery where
  ev : Event
  txOk : Bool
  deriving DecidableEq, Repr

/-- The port a frame form is met at (R35): `rx` the bus delivers it to the SSM, `parse` the host asks for its typed
message, `pack` the host asks for the frame of a typed message. DESIGN CHOICE, safe (log entry 6). -/
inductive Port where
  | rx
  | parse
  | pack
  deriving DecidableEq, Repr

/-! ## The instructions -/

/-- One constructor per row of spec/opcode_table.json.

Identifier rows (format COBID) carry the port, the node field (7 bits; not for NMT and SYNC) and the payload. A frame of
the rows `NMT`, `SDO_RSP` and `SDO_REQ` whose payload has one of the forms of the three other frame formats decodes to
that form's constructor; `nmt`, `sdoRsp` and `sdoReq` are what the remaining frames of their identifiers decode to. -/
inductive Instr where
  -- COBID (R132 to R145)
  | nmt (port : Port) (p : List Byte)
  | sync (port : Port) (p : List Byte)
  | emcy (port : Port) (node : BitVec 7) (p : List Byte)
  | tpdo1 (port : Port) (node : BitVec 7) (p : List Byte)
  | rpdo1 (port : Port) (node : BitVec 7) (p : List Byte)
  | tpdo2 (port : Port) (node : BitVec 7) (p : List Byte)
  | rpdo2 (port : Port) (node : BitVec 7) (p : List Byte)
  | tpdo3 (port : Port) (node : BitVec 7) (p : List Byte)
  | rpdo3 (port : Port) (node : BitVec 7) (p : List Byte)
  | tpdo4 (port : Port) (node : BitVec 7) (p : List Byte)
  | rpdo4 (port : Port) (node : BitVec 7) (p : List Byte)
  | sdoRsp (port : Port) (node : BitVec 7) (p : List Byte)
  | sdoReq (port : Port) (node : BitVec 7) (p : List Byte)
  | heartbeat (port : Port) (node : BitVec 7) (p : List Byte)
  -- SDO_REQ_B0 (R161 to R165)
  | sdoDlSegReq (port : Port) (node : BitVec 7) (t : Bool) (n : BitVec 3) (c : Bool) (d : Bytes7)
  | sdoDlInitReq (port : Port) (node : BitVec 7) (n : BitVec 2) (e sInd : Bool) (index : BitVec 16) (sub : Byte) (d : Bytes4)
  | sdoUlInitReq (port : Port) (node : BitVec 7) (index : BitVec 16) (sub : Byte)
  | sdoUlSegReq (port : Port) (node : BitVec 7) (t : Bool)
  | sdoAbortReq (port : Port) (node : BitVec 7) (index : BitVec 16) (sub : Byte) (code : BitVec 32)
  -- SDO_RSP_B0 (R166 to R170)
  | sdoUlSegRsp (port : Port) (node : BitVec 7) (t : Bool) (n : BitVec 3) (c : Bool) (d : Bytes7)
  | sdoDlSegRsp (port : Port) (node : BitVec 7) (t : Bool)
  | sdoUlInitRsp (port : Port) (node : BitVec 7) (n : BitVec 2) (e sInd : Bool) (index : BitVec 16) (sub : Byte) (d : Bytes4)
  | sdoDlInitRsp (port : Port) (node : BitVec 7) (index : BitVec 16) (sub : Byte)
  | sdoAbortRsp (port : Port) (node : BitVec 7) (index : BitVec 16) (sub : Byte) (code : BitVec 32)
  -- NMT_PAYLOAD (R151 to R155)
  | nmtStartRemoteNode (port : Port) (target : BitVec 7)
  | nmtStopRemoteNode (port : Port) (target : BitVec 7)
  | nmtEnterPreOperational (port : Port) (target : BitVec 7)
  | nmtResetNode (port : Port) (target : BitVec 7)
  | nmtResetCommunication (port : Port) (target : BitVec 7)
  -- HOSTCMD (R241 to R245)
  | nop
  | send (m : Message)
  | sdoRead (node : BitVec 8) (index : BitVec 16) (sub : Byte)
  | sdoWrite (node : BitVec 8) (index : BitVec 16) (sub : Byte) (data : List Byte)
  | ack
  deriving DecidableEq, Repr

end Sys2Proof
end

