-- ==== Sys2Proof/Machine/Operands.lean ====
section
/-! DEFINITION. Operand forms: byte order (20_memory.md R51), payload layouts (30_encoding.md R73 to R83), the SDO command byte
(R74 to R78, R88) and the lengths it carries (43_sdo_command_codec.md R176, R177). Each bit position and code that the spec
states from general knowledge (G3 to G7, UNVERIFIED, unsafe, log entry 15) stands in one definition of this file. -/

namespace Sys2Proof

/-! ## Byte order (R9, R51) -/

/-- `le16(b0, b1)` of R9. -/
def le16 (b0 b1 : Byte) : BitVec 16 := b1 ++ b0

/-- `le32(b0, b1, b2, b3)` of R9. -/
def le32 (b0 b1 b2 b3 : Byte) : BitVec 32 := b3 ++ b2 ++ b1 ++ b0

/-- Byte `i` of a little-endian value, `v[8*i+7 : 8*i]` (R9). -/
def byteOf {w : Nat} (v : BitVec w) (i : Nat) : Byte := v.extractLsb' (8 * i) 8

/-- `bytes_le16(v)` of R9. -/
def bytesLe16 (v : BitVec 16) : List Byte := [byteOf v 0, byteOf v 1]

/-- `bytes_le32(v)` of R9. -/
def bytesLe32 (v : BitVec 32) : Bytes4 := ⟨byteOf v 0, byteOf v 1, byteOf v 2, byteOf v 3⟩

/-! ## Runs of bytes as sequences -/

def Bytes4.toList (d : Bytes4) : List Byte := [d.b0, d.b1, d.b2, d.b3]

def Bytes5.toList (d : Bytes5) : List Byte := [d.b0, d.b1, d.b2, d.b3, d.b4]

def Bytes7.toList (d : Bytes7) : List Byte := [d.b0, d.b1, d.b2, d.b3, d.b4, d.b5, d.b6]

def Bytes8.toList (d : Bytes8) : List Byte := [d.b0, d.b1, d.b2, d.b3, d.b4, d.b5, d.b6, d.b7]

/-- `s[i]` where the sequence has a byte there, 0x00 beyond its end: position `i` of `s ++ zeros(..)` (R9). -/
def byteAt (s : List Byte) (i : Nat) : Byte := s.getD i 0#8

/-- `s ++ zeros(4 - len(s))` as four bytes (R196). -/
def Bytes4.padded (s : List Byte) : Bytes4 := ⟨byteAt s 0, byteAt s 1, byteAt s 2, byteAt s 3⟩

/-- `s ++ zeros(7 - len(s))` as seven bytes (R196). -/
def Bytes7.padded (s : List Byte) : Bytes7 :=
  ⟨byteAt s 0, byteAt s 1, byteAt s 2, byteAt s 3, byteAt s 4, byteAt s 5, byteAt s 6⟩

/-- `s ++ zeros(8 - len(s))` as eight bytes (R102). -/
def Bytes8.padded (s : List Byte) : Bytes8 :=
  ⟨byteAt s 0, byteAt s 1, byteAt s 2, byteAt s 3, byteAt s 4, byteAt s 5, byteAt s 6, byteAt s 7⟩

/-! ## NMT payload (R79, R150, R156) -/

/-- `nmt_code` of R150: 0x01 is the source's, the other four are UNVERIFIED (G5, log entry 15). -/
def nmtCode : NmtFunction → Byte
  | .startRemoteNode => 0x01#8
  | .stopRemoteNode => 0x02#8
  | .enterPreOperational => 0x80#8
  | .resetNode => 0x81#8
  | .resetCommunication => 0x82#8

/-- The function a code stands for, none for every other value of byte 0 (R79, R156). -/
def nmtFunctionOf (b : Byte) : Option NmtFunction :=
  if b = nmtCode .startRemoteNode then some .startRemoteNode
  else if b = nmtCode .stopRemoteNode then some .stopRemoteNode
  else if b = nmtCode .enterPreOperational then some .enterPreOperational
  else if b = nmtCode .resetNode then some .resetNode
  else if b = nmtCode .resetCommunication then some .resetCommunication
  else none

/-- `decode_nmt` of R156, as the function and the target node. Bytes 2 to 7 are ignored. -/
def decodeNmt (p : List Byte) : Except ClassErr (NmtFunction × BitVec 7) :=
  match p with
  | b0 :: b1 :: _ =>
    match nmtFunctionOf b0 with
    | some f => if 127 < b1.toNat then .error .malformedPayload else .ok (f, b1.setWidth 7)
    | none => .error .malformedPayload
  | [_] => .error .malformedPayload
  | [] => .error .malformedPayload

/-! ## EMCY and heartbeat payloads (R80, R81, R107, R109) -/

/-- `decode_emcy` of R107. -/
def decodeEmcy (node : BitVec 8) (p : List Byte) : Except ClassErr Message :=
  if p.length < 8 then .error .malformedPayload
  else .ok (.emcy node (le16 (byteAt p 0) (byteAt p 1)) (byteAt p 2)
    ⟨byteAt p 3, byteAt p 4, byteAt p 5, byteAt p 6, byteAt p 7⟩)

/-- `encode_emcy_payload` of R107. -/
def emcyPayload (code : BitVec 16) (register : Byte) (data : Bytes5) : List Byte :=
  bytesLe16 code ++ [register] ++ data.toList

/-- `decode_heartbeat` of R109. Bytes 1 to 7 are ignored. -/
def decodeHeartbeat (node : BitVec 8) (p : List Byte) : Except ClassErr Message :=
  if p.length < 1 then .error .malformedPayload else .ok (.heartbeat node (byteAt p 0))

/-- `encode_heartbeat_payload` of R109. -/
def heartbeatPayload (state : Byte) : List Byte := [state]

/-! ## The SDO command byte (R74 to R76, R88 (e)) -/

/-- `b0[7:5]`, the command specifier. -/
def sdoSpecifier (b0 : Byte) : BitVec 3 := b0.extractLsb' 5 3

/-- `b0[4]`, the toggle bit `t` of a segment form. -/
def sdoT (b0 : Byte) : Bool := b0.getLsbD 4

/-- `b0[3:1]`, the unused-byte count `n` of a segment data form. -/
def sdoSegN (b0 : Byte) : BitVec 3 := b0.extractLsb' 1 3

/-- `b0[0]`, the last-segment bit `c` of a segment data form. -/
def sdoC (b0 : Byte) : Bool := b0.getLsbD 0

/-- `b0[3:2]`, the unused-byte count `n` of an initiate data form. -/
def sdoInitN (b0 : Byte) : BitVec 2 := b0.extractLsb' 2 2

/-- `b0[1]`, the expedited bit `e` of an initiate data form. -/
def sdoE (b0 : Byte) : Bool := b0.getLsbD 1

/-- `b0[0]`, the size-indicated bit `s` of an initiate data form. -/
def sdoS (b0 : Byte) : Bool := b0.getLsbD 0

/-- Byte 0 of the two segment data forms: `(cs << 5) | (t << 4) | (n << 1) | c` (R88). -/
def segDataByte (cs : BitVec 3) (t : Bool) (n : BitVec 3) (c : Bool) : Byte :=
  cs ++ BitVec.ofBool t ++ n ++ BitVec.ofBool c

/-- Byte 0 of the two initiate data forms: `(cs << 5) | (n << 2) | (e << 1) | s` (R88). -/
def initDataByte (cs : BitVec 3) (n : BitVec 2) (e sInd : Bool) : Byte :=
  cs ++ 0#1 ++ n ++ BitVec.ofBool e ++ BitVec.ofBool sInd

/-- Byte 0 of `SDO_UL_SEG_REQ` and `SDO_DL_SEG_RSP`: `(cs << 5) | (t << 4)` (R88). -/
def segPlainByte (cs : BitVec 3) (t : Bool) : Byte := cs ++ BitVec.ofBool t ++ 0#4

/-- Byte 0 of the other forms: `cs << 5` (R88). -/
def plainByte (cs : BitVec 3) : Byte := cs ++ 0#5

/-! ### Specifier values (G3, UNVERIFIED, log entry 15) -/

/-- `ccs` of the five request forms (R74) and `scs` of the five response forms (R75). -/
def sdoCs : SdoCommand → BitVec 3
  | .downloadSegReq _ _ _ _ => 0#3
  | .initDownloadReq _ _ _ _ _ _ => 1#3
  | .initUploadReq _ _ => 2#3
  | .uploadSegReq _ => 3#3
  | .abort _ _ _ => 4#3
  | .uploadSegRsp _ _ _ _ => 0#3
  | .downloadSegRsp _ => 1#3
  | .initUploadRsp _ _ _ _ _ _ => 2#3
  | .initDownloadRsp _ _ => 3#3

/-! ## The SDO decoders and the encoder (R161 to R173) -/

/-- `decode_sdo_req` of R171, with the `decode` lines of R161 to R165. -/
def decodeSdoReq (p : List Byte) : Except ClassErr SdoCommand :=
  if p.length < 8 then .error .malformedPayload
  else
    let b0 := byteAt p 0
    let index := le16 (byteAt p 1) (byteAt p 2)
    let sub := byteAt p 3
    let d4 : Bytes4 := ⟨byteAt p 4, byteAt p 5, byteAt p 6, byteAt p 7⟩
    let d7 : Bytes7 := ⟨byteAt p 1, byteAt p 2, byteAt p 3, byteAt p 4, byteAt p 5, byteAt p 6, byteAt p 7⟩
    match (sdoSpecifier b0).toNat with
    | 0 => .ok (.downloadSegReq (sdoT b0) (sdoSegN b0) (sdoC b0) d7)
    | 1 => .ok (.initDownloadReq (sdoInitN b0) (sdoE b0) (sdoS b0) index sub d4)
    | 2 => .ok (.initUploadReq index sub)
    | 3 => .ok (.uploadSegReq (sdoT b0))
    | 4 => .ok (.abort index sub (le32 d4.b0 d4.b1 d4.b2 d4.b3))
    | _ => .error .malformedPayload

/-- `decode_sdo_rsp` of R172, with the `decode` lines of R166 to R170. -/
def decodeSdoRsp (p : List Byte) : Except ClassErr SdoCommand :=
  if p.length < 8 then .error .malformedPayload
  else
    let b0 := byteAt p 0
    let index := le16 (byteAt p 1) (byteAt p 2)
    let sub := byteAt p 3
    let d4 : Bytes4 := ⟨byteAt p 4, byteAt p 5, byteAt p 6, byteAt p 7⟩
    let d7 : Bytes7 := ⟨byteAt p 1, byteAt p 2, byteAt p 3, byteAt p 4, byteAt p 5, byteAt p 6, byteAt p 7⟩
    match (sdoSpecifier b0).toNat with
    | 0 => .ok (.uploadSegRsp (sdoT b0) (sdoSegN b0) (sdoC b0) d7)
    | 1 => .ok (.downloadSegRsp (sdoT b0))
    | 2 => .ok (.initUploadRsp (sdoInitN b0) (sdoE b0) (sdoS b0) index sub d4)
    | 3 => .ok (.initDownloadRsp index sub)
    | 4 => .ok (.abort index sub (le32 d4.b0 d4.b1 d4.b2 d4.b3))
    | _ => .error .malformedPayload

/-- Bytes 1 to 3 of the initiate and abort forms (R77). -/
def addressBytes (index : BitVec 16) (sub : Byte) : List Byte := bytesLe16 index ++ [sub]

/-- `encode_sdo` of R173: the `encode` lines of R161 to R170, always eight bytes. -/
def encodeSdo (c : SdoCommand) : List Byte :=
  match c with
  | .initDownloadReq n e sInd index sub d => [initDataByte (sdoCs c) n e sInd] ++ addressBytes index sub ++ d.toList
  | .initUploadReq index sub => [plainByte (sdoCs c)] ++ addressBytes index sub ++ List.replicate 4 0#8
  | .downloadSegReq t n cBit d => [segDataByte (sdoCs c) t n cBit] ++ d.toList
  | .uploadSegReq t => [segPlainByte (sdoCs c) t] ++ List.replicate 7 0#8
  | .abort index sub code => [plainByte (sdoCs c)] ++ addressBytes index sub ++ (bytesLe32 code).toList
  | .initDownloadRsp index sub => [plainByte (sdoCs c)] ++ addressBytes index sub ++ List.replicate 4 0#8
  | .initUploadRsp n e sInd index sub d => [initDataByte (sdoCs c) n e sInd] ++ addressBytes index sub ++ d.toList
  | .downloadSegRsp t => [segPlainByte (sdoCs c) t] ++ List.replicate 7 0#8
  | .uploadSegRsp t n cBit d => [segDataByte (sdoCs c) t n cBit] ++ d.toList

/-! ## Lengths (R176, R177) -/

/-- `exp_len(n, s)` of R176: the length of expedited data, 1 to 4. -/
def expLen (n : BitVec 2) (sInd : Bool) : Nat := if sInd then 4 - n.toNat else 4

/-- `seg_len(n, c)` of R177: the data bytes taken from an upload segment, 0 to 7. -/
def segLen (n : BitVec 3) (c : Bool) : Nat := if c then 7 - n.toNat else 7

end Sys2Proof
end

