-- ==== Sys2Proof/WellFormed.lean ====
section
/-! DEFINITION. Well-formed messages (40_frame_codec.md R103) and well-formed instructions. -/

namespace Sys2Proof

/-- The five request forms of R160. -/
def SdoCommand.isRequest : SdoCommand → Bool
  | .initDownloadReq _ _ _ _ _ _ => true
  | .initUploadReq _ _ => true
  | .downloadSegReq _ _ _ _ => true
  | .uploadSegReq _ => true
  | .abort _ _ _ => true
  | .initDownloadRsp _ _ => false
  | .initUploadRsp _ _ _ _ _ _ => false
  | .downloadSegRsp _ => false
  | .uploadSegRsp _ _ _ _ => false

/-- The five response forms of R160. -/
def SdoCommand.isResponse : SdoCommand → Bool
  | .initDownloadReq _ _ _ _ _ _ => false
  | .initUploadReq _ _ => false
  | .downloadSegReq _ _ _ _ => false
  | .uploadSegReq _ => false
  | .abort _ _ _ => true
  | .initDownloadRsp _ _ => true
  | .initUploadRsp _ _ _ _ _ _ => true
  | .downloadSegRsp _ => true
  | .uploadSegRsp _ _ _ _ => true

/-- A `NodeId`: 1 to 127 (R11). -/
def isNodeId (node : BitVec 8) : Bool := decide (1 ≤ node.toNat) && decide (node.toNat ≤ 127)

/-- `well_formed(m)` of R103. -/
def Message.wf : Message → Bool
  | .nmt _ targetNode => decide (targetNode.toNat ≤ 127)
  | .sync => true
  | .emcy node _ _ _ => isNodeId node
  | .pdo node slot data => isNodeId node && decide (1 ≤ slot.num) && decide (slot.num ≤ 4) && decide (data.length ≤ 8)
  | .sdoRequest node command => isNodeId node && command.isRequest
  | .sdoResponse node command => isNodeId node && command.isResponse
  | .heartbeat node _ => isNodeId node

/-- A payload whose decoder refuses it. -/
def isMalformed {α : Type} : Except ClassErr α → Bool
  | .ok _ => false
  | .error _ => true

/-- An identifier row's payload: 0 to 8 bytes, and on `PACK` exactly `packed` bytes (R70, R73). -/
def payloadFits (port : Port) (packed : Nat) (p : List Byte) : Bool :=
  match port with
  | .rx => decide (p.length ≤ 8)
  | .parse => decide (p.length ≤ 8)
  | .pack => decide (p.length = packed)

/-- A frame of the rows `NMT`, `SDO_RSP`, `SDO_REQ` on its own: 0 to 8 bytes of no other row's form, received, not packed. -/
def formlessFits {α : Type} (port : Port) (p : List Byte) (dec : Except ClassErr α) : Bool :=
  match port with
  | .rx => decide (p.length ≤ 8) && isMalformed dec
  | .parse => decide (p.length ≤ 8) && isMalformed dec
  | .pack => false

/-- A node field other than 0 (R71, R72). -/
def nodeFits (node : BitVec 7) : Bool := decide (node ≠ 0#7)

/-- The instructions the encoding admits: exactly those some event decodes to. -/
def Instr.wf : Instr → Bool
  | .nmt port p => formlessFits port p (decodeNmt p)
  | .sync port p => payloadFits port 0 p
  | .emcy port node p => nodeFits node && payloadFits port 8 p
  | .tpdo1 _ node p => nodeFits node && decide (p.length ≤ 8)
  | .rpdo1 _ node p => nodeFits node && decide (p.length ≤ 8)
  | .tpdo2 _ node p => nodeFits node && decide (p.length ≤ 8)
  | .rpdo2 _ node p => nodeFits node && decide (p.length ≤ 8)
  | .tpdo3 _ node p => nodeFits node && decide (p.length ≤ 8)
  | .rpdo3 _ node p => nodeFits node && decide (p.length ≤ 8)
  | .tpdo4 _ node p => nodeFits node && decide (p.length ≤ 8)
  | .rpdo4 _ node p => nodeFits node && decide (p.length ≤ 8)
  | .sdoRsp port node p => nodeFits node && formlessFits port p (decodeSdoRsp p)
  | .sdoReq port node p => nodeFits node && formlessFits port p (decodeSdoReq p)
  | .heartbeat port node p => nodeFits node && payloadFits port 1 p
  | .sdoDlSegReq _ node _ _ _ _ => nodeFits node
  | .sdoDlInitReq _ node _ _ _ _ _ _ => nodeFits node
  | .sdoUlInitReq _ node _ _ => nodeFits node
  | .sdoUlSegReq _ node _ => nodeFits node
  | .sdoAbortReq _ node _ _ _ => nodeFits node
  | .sdoUlSegRsp _ node _ _ _ _ => nodeFits node
  | .sdoDlSegRsp _ node _ => nodeFits node
  | .sdoUlInitRsp _ node _ _ _ _ _ _ => nodeFits node
  | .sdoDlInitRsp _ node _ _ => nodeFits node
  | .sdoAbortRsp _ node _ _ _ => nodeFits node
  | .nmtStartRemoteNode _ _ => true
  | .nmtStopRemoteNode _ _ => true
  | .nmtEnterPreOperational _ _ => true
  | .nmtResetNode _ _ => true
  | .nmtResetCommunication _ _ => true
  | .nop => true
  | .send _ => true
  | .sdoRead _ _ _ => true
  | .sdoWrite _ _ _ _ => true
  | .ack => true

end Sys2Proof
end

