-- ==== Sys2Proof/Decode.lean ====
section
/-! DEFINITION. The Frame Codec (40_frame_codec.md), the Message Classifier (41_message_classifier.md) and the NMT Encoder
(42_nmt_encoder.md) as functions; from a port's value to `Instr` (`decodeEvent`) and back (`encode`). -/

namespace Sys2Proof

/-! ## Raw frames (R101, R102) -/

/-- `parse_raw` of R101. The bytes at and beyond `dlc` are not read. -/
def parseRaw (r : RawFrame) : Except ClassErr CanFrame :=
  if 8 < r.dlc.toNat then .error .malformedPayload
  else .ok { id := r.id, payload := r.data.toList.take r.dlc.toNat }

/-- `pack_raw` of R102. The unused data bytes are 0x00 (D6, log entry 16). A payload above 8 bytes, which the spec's type
excludes, gives its length modulo 16 and its first 8 bytes: DESIGN CHOICE, safe, log entry 20; no event reaches it. -/
def packRaw (f : CanFrame) : RawFrame :=
  { id := f.id, dlc := BitVec.ofNat 4 f.payload.length, data := Bytes8.padded f.payload }

/-! ## The Message Classifier (R71, R72, R130, R131) -/

/-- `id[10:7]`, the function code (R71). -/
def functionCode (id : BitVec 11) : BitVec 4 := id.extractLsb' 7 4

/-- `id[6:0]`, the node field (R71). -/
def nodeField (id : BitVec 11) : BitVec 7 := id.extractLsb' 0 7

/-- `node_block` of R130. -/
def nodeBlock (k : Kind) (nd : BitVec 7) : Except ClassErr (Kind × BitVec 7) :=
  if nd = 0#7 then .error .unknownFunctionCode else .ok (k, nd)

/-- `classify` of R130. The function codes are UNVERIFIED (G1, log entry 15); 0b0010, 0b1101 and 0b1111 are the last arm. -/
def classify (id : BitVec 11) : Except ClassErr (Kind × BitVec 7) :=
  let nd := nodeField id
  match (functionCode id).toNat with
  | 0b0000 => if nd = 0#7 then .ok (.nmt, 0#7) else .error .unknownFunctionCode
  | 0b0001 => if nd = 0#7 then .ok (.sync, 0#7) else .ok (.emcy, nd)
  | 0b0011 => nodeBlock (.pdo ⟨1, .tx⟩) nd
  | 0b0100 => nodeBlock (.pdo ⟨1, .rx⟩) nd
  | 0b0101 => nodeBlock (.pdo ⟨2, .tx⟩) nd
  | 0b0110 => nodeBlock (.pdo ⟨2, .rx⟩) nd
  | 0b0111 => nodeBlock (.pdo ⟨3, .tx⟩) nd
  | 0b1000 => nodeBlock (.pdo ⟨3, .rx⟩) nd
  | 0b1001 => nodeBlock (.pdo ⟨4, .tx⟩) nd
  | 0b1010 => nodeBlock (.pdo ⟨4, .rx⟩) nd
  | 0b1011 => nodeBlock .sdoRsp nd
  | 0b1100 => nodeBlock .sdoReq nd
  | 0b1110 => nodeBlock .heartbeat nd
  | _ => .error .unknownFunctionCode

/-- `pdo_base` of R131 (UNVERIFIED, G1, log entry 15). The last arm is outside the domain of `encode` (R103): no caller
with a well-formed message reaches it (DESIGN CHOICE, safe, log entry 20). -/
def pdoBase (slot : PdoSlot) : BitVec 11 :=
  match slot.num, slot.dir with
  | 1, .tx => 0x180#11
  | 1, .rx => 0x200#11
  | 2, .tx => 0x280#11
  | 2, .rx => 0x300#11
  | 3, .tx => 0x380#11
  | 3, .rx => 0x400#11
  | 4, .tx => 0x480#11
  | 4, .rx => 0x500#11
  | _, _ => 0x000#11

/-- `base | nd` of R88 (a). -/
def orNode (base : BitVec 11) (nd : BitVec 7) : BitVec 11 := base ||| nd.setWidth 11

/-- `cob_id_of` of R131 (UNVERIFIED, G1, log entry 15). -/
def cobIdOf (k : Kind) (nd : BitVec 7) : BitVec 11 :=
  match k with
  | .nmt => 0x000#11
  | .sync => 0x080#11
  | .emcy => orNode 0x080#11 nd
  | .pdo slot => orNode (pdoBase slot) nd
  | .sdoRsp => orNode 0x580#11 nd
  | .sdoReq => orNode 0x600#11 nd
  | .heartbeat => orNode 0x700#11 nd

/-! ## Messages (R104, R105) -/

/-- A node field as the 8-bit node number of a `Message`. -/
def node8 (nd : BitVec 7) : BitVec 8 := nd.setWidth 8

/-- A node number as a node field: exact for every well-formed message (R103). -/
def node7 (node : BitVec 8) : BitVec 7 := node.setWidth 7

/-- `map (c => SdoResponse{node, c}) (decode_sdo_rsp(p))` of R104. -/
def sdoRspResult (nd : BitVec 7) (p : List Byte) : Except ClassErr Message :=
  (decodeSdoRsp p).map (Message.sdoResponse (node8 nd))

/-- `map (c => SdoRequest{node, c}) (decode_sdo_req(p))` of R104. -/
def sdoReqResult (nd : BitVec 7) (p : List Byte) : Except ClassErr Message :=
  (decodeSdoReq p).map (Message.sdoRequest (node8 nd))

/-- `decode_nmt(p)` of R156 as a message. -/
def nmtResult (p : List Byte) : Except ClassErr Message :=
  (decodeNmt p).map fun ft => Message.nmt ft.1 (node8 ft.2)

/-- The payload stage of R104. -/
def payloadResult (k : Kind) (nd : BitVec 7) (p : List Byte) : Except ClassErr Message :=
  match k with
  | .nmt => nmtResult p
  | .sync => .ok .sync
  | .emcy => decodeEmcy (node8 nd) p
  | .pdo slot => .ok (.pdo (node8 nd) slot p)
  | .sdoRsp => sdoRspResult nd p
  | .sdoReq => sdoReqResult nd p
  | .heartbeat => decodeHeartbeat (node8 nd) p

/-- `decode` of R104. -/
def decodeMessage (r : RawFrame) : Except ClassErr Message :=
  match parseRaw r with
  | .error e => .error e
  | .ok f =>
    match classify f.id with
    | .error e => .error e
    | .ok (k, nd) => payloadResult k nd f.payload

/-- The kind of a message (R131). -/
def Message.kind : Message → Kind
  | .nmt _ _ => .nmt
  | .sync => .sync
  | .emcy _ _ _ _ => .emcy
  | .pdo _ slot _ => .pdo slot
  | .sdoRequest _ _ => .sdoReq
  | .sdoResponse _ _ => .sdoRsp
  | .heartbeat _ _ => .heartbeat

/-- The node an identifier carries for a message, 0 for NMT and SYNC (R131). -/
def Message.nodeOf : Message → BitVec 7
  | .nmt _ _ => 0#7
  | .sync => 0#7
  | .emcy node _ _ _ => node7 node
  | .pdo node _ _ => node7 node
  | .sdoRequest node _ => node7 node
  | .sdoResponse node _ => node7 node
  | .heartbeat node _ => node7 node

/-- `cob_id` of R105, as R131 states it. -/
def Message.cobId (m : Message) : BitVec 11 := cobIdOf m.kind m.nodeOf

/-- `payload_of` of R105. -/
def Message.payload : Message → List Byte
  | .nmt function targetNode => [nmtCode function, targetNode]
  | .sync => []
  | .emcy _ code register data => emcyPayload code register data
  | .pdo _ _ data => data
  | .sdoRequest _ command => encodeSdo command
  | .sdoResponse _ command => encodeSdo command
  | .heartbeat _ state => heartbeatPayload state

/-- `encode` of R105; its domain is the well-formed messages (R103). Outside it the result is the model's (log entry 20). -/
def Message.encode (m : Message) : RawFrame := packRaw { id := m.cobId, payload := m.payload }

/-- `build` of R150. -/
def build (function : NmtFunction) (target : BitVec 7) : RawFrame := (Message.nmt function (node8 target)).encode

/-! ## From a port's value to an instruction -/

/-- What an event is: an instruction, an event that is no instruction, or a value refused by name. -/
inductive Decoded where
  | instr (i : Instr)
  /-- A frame with `dlc` above 8 or an unrecognized identifier (R101, R146). -/
  | badFrame (port : Port) (e : ClassErr)
  /-- A command opcode 5, 6 or 7 (R84, R246). -/
  | badCommand (op : BitVec 3)
  /-- An ill-formed message on `PACK` (U21). -/
  | badMessage (m : Message)
  | timeout
  | rxIoError
  | reset
  deriving DecidableEq, Repr

/-- The row of an NMT function (R151 to R155). -/
def nmtInstr (port : Port) (f : NmtFunction) (target : BitVec 7) : Instr :=
  match f with
  | .startRemoteNode => .nmtStartRemoteNode port target
  | .stopRemoteNode => .nmtStopRemoteNode port target
  | .enterPreOperational => .nmtEnterPreOperational port target
  | .resetNode => .nmtResetNode port target
  | .resetCommunication => .nmtResetCommunication port target

/-- The row of a PDO slot (R135 to R142), none for a slot number outside 1 to 4. -/
def pdoInstr (port : Port) (slot : PdoSlot) (nd : BitVec 7) (p : List Byte) : Option Instr :=
  match slot.num, slot.dir with
  | 1, .tx => some (.tpdo1 port nd p)
  | 1, .rx => some (.rpdo1 port nd p)
  | 2, .tx => some (.tpdo2 port nd p)
  | 2, .rx => some (.rpdo2 port nd p)
  | 3, .tx => some (.tpdo3 port nd p)
  | 3, .rx => some (.rpdo3 port nd p)
  | 4, .tx => some (.tpdo4 port nd p)
  | 4, .rx => some (.rpdo4 port nd p)
  | _, _ => none

/-- The row of a request form (R74), none for a command that is no request. -/
def sdoReqInstr (port : Port) (nd : BitVec 7) (c : SdoCommand) : Option Instr :=
  match c with
  | .initDownloadReq n e sInd index sub d => some (.sdoDlInitReq port nd n e sInd index sub d)
  | .initUploadReq index sub => some (.sdoUlInitReq port nd index sub)
  | .downloadSegReq t n cBit d => some (.sdoDlSegReq port nd t n cBit d)
  | .uploadSegReq t => some (.sdoUlSegReq port nd t)
  | .abort index sub code => some (.sdoAbortReq port nd index sub code)
  | .initDownloadRsp _ _ => none
  | .initUploadRsp _ _ _ _ _ _ => none
  | .downloadSegRsp _ => none
  | .uploadSegRsp _ _ _ _ => none

/-- The row of a response form (R75), none for a command that is no response. -/
def sdoRspInstr (port : Port) (nd : BitVec 7) (c : SdoCommand) : Option Instr :=
  match c with
  | .initDownloadReq _ _ _ _ _ _ => none
  | .initUploadReq _ _ => none
  | .downloadSegReq _ _ _ _ => none
  | .uploadSegReq _ => none
  | .abort index sub code => some (.sdoAbortRsp port nd index sub code)
  | .initDownloadRsp index sub => some (.sdoDlInitRsp port nd index sub)
  | .initUploadRsp n e sInd index sub d => some (.sdoUlInitRsp port nd n e sInd index sub d)
  | .downloadSegRsp t => some (.sdoDlSegRsp port nd t)
  | .uploadSegRsp t n cBit d => some (.sdoUlSegRsp port nd t n cBit d)

/-- The NMT frame's row: its function's where the payload names one, `nmt` else. -/
def nmtFrameInstr (port : Port) (p : List Byte) : Instr :=
  match decodeNmt p with
  | .ok (f, target) => nmtInstr port f target
  | .error _ => .nmt port p

/-- The SDO response frame's row: its form's where the payload has one, `sdoRsp` else. -/
def sdoRspFrameInstr (port : Port) (nd : BitVec 7) (p : List Byte) : Instr :=
  match decodeSdoRsp p with
  | .ok c => (sdoRspInstr port nd c).getD (.sdoRsp port nd p)
  | .error _ => .sdoRsp port nd p

/-- The SDO request frame's row: its form's where the payload has one, `sdoReq` else. -/
def sdoReqFrameInstr (port : Port) (nd : BitVec 7) (p : List Byte) : Instr :=
  match decodeSdoReq p with
  | .ok c => (sdoReqInstr port nd c).getD (.sdoReq port nd p)
  | .error _ => .sdoReq port nd p

/-- The row of a classified frame (R72). -/
def frameInstr (port : Port) (k : Kind) (nd : BitVec 7) (p : List Byte) : Option Instr :=
  match k with
  | .nmt => some (nmtFrameInstr port p)
  | .sync => some (.sync port p)
  | .emcy => some (.emcy port nd p)
  | .pdo slot => pdoInstr port slot nd p
  | .sdoRsp => some (sdoRspFrameInstr port nd p)
  | .sdoReq => some (sdoReqFrameInstr port nd p)
  | .heartbeat => some (.heartbeat port nd p)

/-- A frame at `RX` or `PARSE`: length first, then identifier, then payload (R89, R104). -/
def decodeFrame (port : Port) (r : RawFrame) : Decoded :=
  match parseRaw r with
  | .error e => .badFrame port e
  | .ok f =>
    match classify f.id with
    | .error e => .badFrame port e
    | .ok (k, nd) =>
      match frameInstr port k nd f.payload with
      | some i => .instr i
      | none => .badFrame port .unknownFunctionCode

/-- The row whose frame `encode` makes of a message (R105), none for one outside the rows. -/
def messageInstr (m : Message) : Option Instr :=
  match m with
  | .nmt function targetNode => some (nmtInstr .pack function (node7 targetNode))
  | .sync => some (.sync .pack [])
  | .emcy node code register data => some (.emcy .pack (node7 node) (emcyPayload code register data))
  | .pdo node slot data => pdoInstr .pack slot (node7 node) data
  | .sdoRequest node command => sdoReqInstr .pack (node7 node) command
  | .sdoResponse node command => sdoRspInstr .pack (node7 node) command
  | .heartbeat node state => some (.heartbeat .pack (node7 node) (heartbeatPayload state))

/-- A message at `PACK`: only a well-formed one is an instruction (R103, U21). -/
def decodePack (m : Message) : Decoded :=
  if m.wf then
    match messageInstr m with
    | some i => .instr i
    | none => .badMessage m
  else .badMessage m

/-- Opcodes of the five host commands (R85). -/
def decodeCmd (c : RawCmd) : Decoded :=
  match c.op.toNat with
  | 0 => .instr .nop
  | 1 => .instr (.send c.msg)
  | 2 => .instr (.sdoRead c.node c.index c.sub)
  | 3 => .instr (.sdoWrite c.node c.index c.sub c.data)
  | 4 => .instr .ack
  | _ => .badCommand c.op

/-- The decoder: total on every value of every port. -/
def decodeEvent (ev : Event) : Decoded :=
  match ev with
  | .cmd c => decodeCmd c
  | .rx r => decodeFrame .rx r
  | .timeout => .timeout
  | .rxIoError => .rxIoError
  | .parse r => decodeFrame .parse r
  | .pack m => decodePack m
  | .reset => .reset

/-! ## From an instruction to its port's value -/

/-- A frame form's port, identifier, payload, and the result of decoding it (R104). -/
structure Form where
  port : Port
  id : BitVec 11
  payload : List Byte
  result : Except ClassErr Message

/-- The form of an identifier row. -/
def Form.ofKind (port : Port) (k : Kind) (nd : BitVec 7) (p : List Byte) : Form :=
  { port, id := cobIdOf k nd, payload := p, result := payloadResult k nd p }

/-- The form of a row that fixes the whole message. -/
def Form.ofMessage (port : Port) (m : Message) : Form :=
  { port, id := m.cobId, payload := m.payload, result := .ok m }

/-- A command word whose unread operands are 0, empty and `Sync`. -/
def cmdWord (op : BitVec 3) : RawCmd := { op, node := 0#8, index := 0#16, sub := 0#8, data := [], msg := .sync }

/-- What an instruction is at its port: a frame form, or a command word. -/
inductive View where
  | frame (f : Form)
  | command (c : RawCmd)

/-- The port's view of an instruction; the unread operands of a command word are 0, empty and `Sync` (log entry 8). -/
def Instr.view : Instr → View
  | .nmt port p => .frame (.ofKind port .nmt 0#7 p)
  | .sync port p => .frame (.ofKind port .sync 0#7 p)
  | .emcy port node p => .frame (.ofKind port .emcy node p)
  | .tpdo1 port node p => .frame (.ofKind port (.pdo ⟨1, .tx⟩) node p)
  | .rpdo1 port node p => .frame (.ofKind port (.pdo ⟨1, .rx⟩) node p)
  | .tpdo2 port node p => .frame (.ofKind port (.pdo ⟨2, .tx⟩) node p)
  | .rpdo2 port node p => .frame (.ofKind port (.pdo ⟨2, .rx⟩) node p)
  | .tpdo3 port node p => .frame (.ofKind port (.pdo ⟨3, .tx⟩) node p)
  | .rpdo3 port node p => .frame (.ofKind port (.pdo ⟨3, .rx⟩) node p)
  | .tpdo4 port node p => .frame (.ofKind port (.pdo ⟨4, .tx⟩) node p)
  | .rpdo4 port node p => .frame (.ofKind port (.pdo ⟨4, .rx⟩) node p)
  | .sdoRsp port node p => .frame (.ofKind port .sdoRsp node p)
  | .sdoReq port node p => .frame (.ofKind port .sdoReq node p)
  | .heartbeat port node p => .frame (.ofKind port .heartbeat node p)
  | .sdoDlSegReq port node t n c d => .frame (.ofMessage port (.sdoRequest (node8 node) (.downloadSegReq t n c d)))
  | .sdoDlInitReq port node n e sInd index sub d =>
    .frame (.ofMessage port (.sdoRequest (node8 node) (.initDownloadReq n e sInd index sub d)))
  | .sdoUlInitReq port node index sub => .frame (.ofMessage port (.sdoRequest (node8 node) (.initUploadReq index sub)))
  | .sdoUlSegReq port node t => .frame (.ofMessage port (.sdoRequest (node8 node) (.uploadSegReq t)))
  | .sdoAbortReq port node index sub code => .frame (.ofMessage port (.sdoRequest (node8 node) (.abort index sub code)))
  | .sdoUlSegRsp port node t n c d => .frame (.ofMessage port (.sdoResponse (node8 node) (.uploadSegRsp t n c d)))
  | .sdoDlSegRsp port node t => .frame (.ofMessage port (.sdoResponse (node8 node) (.downloadSegRsp t)))
  | .sdoUlInitRsp port node n e sInd index sub d =>
    .frame (.ofMessage port (.sdoResponse (node8 node) (.initUploadRsp n e sInd index sub d)))
  | .sdoDlInitRsp port node index sub => .frame (.ofMessage port (.sdoResponse (node8 node) (.initDownloadRsp index sub)))
  | .sdoAbortRsp port node index sub code => .frame (.ofMessage port (.sdoResponse (node8 node) (.abort index sub code)))
  | .nmtStartRemoteNode port target => .frame (.ofMessage port (.nmt .startRemoteNode (node8 target)))
  | .nmtStopRemoteNode port target => .frame (.ofMessage port (.nmt .stopRemoteNode (node8 target)))
  | .nmtEnterPreOperational port target => .frame (.ofMessage port (.nmt .enterPreOperational (node8 target)))
  | .nmtResetNode port target => .frame (.ofMessage port (.nmt .resetNode (node8 target)))
  | .nmtResetCommunication port target => .frame (.ofMessage port (.nmt .resetCommunication (node8 target)))
  | .nop => .command (cmdWord 0#3)
  | .send m => .command { cmdWord 1#3 with msg := m }
  | .sdoRead node index sub => .command { cmdWord 2#3 with node := node, index := index, sub := sub }
  | .sdoWrite node index sub data => .command { cmdWord 3#3 with node := node, index := index, sub := sub, data := data }
  | .ack => .command (cmdWord 4#3)

/-- The port value of a frame form; a form that decodes to no message has none on `PACK`. -/
def Form.event (f : Form) : Option Event :=
  match f.port with
  | .rx => some (.rx (packRaw ⟨f.id, f.payload⟩))
  | .parse => some (.parse (packRaw ⟨f.id, f.payload⟩))
  | .pack =>
    match f.result with
    | .ok m => some (.pack m)
    | .error _ => none

/-- The encoder: the port value of a well-formed instruction, reserved bits and unread operands 0 (R84, R102). -/
def encode (i : Instr) : Option Event :=
  match i.view with
  | .frame f => f.event
  | .command c => some (.cmd c)

/-! ## Words of the opcode table -/

/-- The port value that holds a word of spec/opcode_table.json, every other bit 0 (log entry 13, DESIGN CHOICE).
16 (or 11) bits: an identifier, as a received frame with `dlc` 0. 8 (or 3) bits: the table's three 8-bit formats and its
3-bit format share their words, so the word is read as a command opcode where it is below 8, as an NMT code where it is
one, and else as byte 0 of an SDO response of node 1. -/
def tableWordEvent (nbits w : Nat) : Option Event :=
  if nbits = 16 ∨ nbits = 11 then
    if w < 2 ^ 11 then some (.rx { id := BitVec.ofNat 11 w, dlc := 0#4, data := Bytes8.padded [] }) else none
  else if nbits = 8 ∨ nbits = 3 then
    if w < 8 then some (.cmd (cmdWord (BitVec.ofNat 3 w)))
    else if nbits = 8 ∧ w < 256 then
      match nmtFunctionOf (BitVec.ofNat 8 w) with
      | some _ => some (.rx (packRaw ⟨cobIdOf .nmt 0#7, [BitVec.ofNat 8 w, 0#8]⟩))
      | none => some (.rx (packRaw ⟨cobIdOf .sdoRsp 1#7, BitVec.ofNat 8 w :: List.replicate 7 0#8⟩))
    else none
  else none

/-- The instruction the decoder reads from a word of spec/opcode_table.json. -/
def decodeTableWord (nbits w : Nat) : Option Instr :=
  match tableWordEvent nbits w with
  | some ev =>
    match decodeEvent ev with
    | .instr i => some i
    | .badFrame _ _ => none
    | .badCommand _ => none
    | .badMessage _ => none
    | .timeout => none
    | .rxIoError => none
    | .reset => none
  | none => none

end Sys2Proof
end

