-- ==== Sys2Proof/Config.lean ====
section
/-! DEFINITION. The configuration record `cfg`: the three OPEN parameters of 00_scope.md R5. -/

namespace Sys2Proof

/-- The record `cfg` of R5. It is fixed at instantiation (R249) and not changed by reset (R291). -/
structure Cfg where
  /-- `BUF_MAX`: capacity in bytes of the transfer buffer. -/
  bufMax : Nat
  /-- `LOCAL_ABORT_CODE`: sent when a response cannot be interpreted (R199). -/
  localAbortCode : BitVec 32
  /-- `OVERFLOW_ABORT_CODE`: sent when an upload would exceed `BUF_MAX` (R208). -/
  overflowAbortCode : BitVec 32
  deriving DecidableEq, Repr

/-- The bounds R5 puts on the parameters: `4 <= BUF_MAX <= 2^32 - 1`; the codes are any 32-bit values. -/
abbrev Cfg.WF (c : Cfg) : Prop := 4 ≤ c.bufMax ∧ c.bufMax ≤ 2 ^ 32 - 1

/-- The configuration `State.reset` carries: the two default codes of R5, and for `BUF_MAX`, which has no
default, the 64 that the vectors of 95_test_vectors.md use. DESIGN CHOICE, unsafe for a claim about `State.reset`
alone (log entry 4); every other statement is over every `Cfg`. -/
def Config.atReset : Cfg :=
  { bufMax := 64, localAbortCode := 0x05040001#32, overflowAbortCode := 0x05040005#32 }

end Sys2Proof
end

