-- ==== Sys2Proof/Machine/State.lean ====
section
/-! DEFINITION. The state: the transfer record `X` (10_state.md R20), the configuration (R5), the deliveries the outside agents
still make (R7), and the port values of the step just made (R35). -/

namespace Sys2Proof.Machine

/-- `st`, the sequencer state (R21). Code 7 has no constructor (U26). -/
inductive St where
  | idle
  | initiating
  | segmenting
  | done
  | aborted
  | timedOut
  | error
  deriving DecidableEq, Repr

/-- `dir`, the direction of a transfer (R22). -/
inductive Dir where
  | upload
  | download
  deriving DecidableEq, Repr

/-- `err`, the error kind (R31, R260). -/
inductive ErrKind where
  | none
  | timeout
  | remoteAbort
  | toggleMismatch
  | unexpectedResponse
  | classUnknownFunctionCode
  | classMalformedPayload
  | transportError
  | bufferOverflow
  deriving DecidableEq, Repr

/-- The transfer record `X` (R20), its fields in R20's order. -/
structure Xfer where
  st : St
  dir : Dir
  node : BitVec 7
  index : BitVec 16
  sub : Byte
  exp : Bool
  toggle : Bool
  total : BitVec 32
  totalValid : Bool
  remaining : BitVec 32
  buf : List Byte
  bufLen : Nat
  err : ErrKind
  abortCode : BitVec 32
  deriving DecidableEq, Repr

/-- `X0`, the record in which no transfer exists (R39). -/
def Xfer.x0 : Xfer :=
  { st := .idle
    dir := .upload
    node := 0#7
    index := 0x0000#16
    sub := 0x00#8
    exp := false
    toggle := false
    total := 0#32
    totalValid := false
    remaining := 0#32
    buf := []
    bufLen := 0
    err := .none
    abortCode := 0x00000000#32 }

/-- `RefusalReason` of R240. -/
inductive RefusalReason where
  | badCommand
  | notIdle
  | busy
  | badNode
  | badLength
  | badMessage
  | nothingToAck
  deriving DecidableEq, Repr

/-- `HostResponse` of R240; the only failure is `Failed(TransportError)`. -/
inductive HostResponse where
  | accepted
  | refused (reason : RefusalReason)
  | failedTransportError
  deriving DecidableEq, Repr

/-- The answer on `PARSE`: `Result<Message, ClassificationError>` (R35, R104). -/
inductive ParseAnswer where
  | ok (m : Message)
  | err (e : ClassErr)
  deriving DecidableEq, Repr

/-- The answer on `PACK`: the frame (R105), or nothing for a message outside `encode`'s domain (U21, log entry 12). -/
inductive PackAnswer where
  | frame (r : RawFrame)
  | refused
  deriving DecidableEq, Repr

/-- The whole machine. `x` is the spec's state; `cfg` is fixed; `inputs` and `txOk` carry the outside agents; the rest are the
port values of the step just made. -/
structure State where
  /-- The transfer record (R20). -/
  x : Xfer
  /-- The configuration (R5), written by no step (R249, R291). -/
  cfg : Cfg
  /-- MODEL's own: the deliveries still to come, oldest first (R7, R190; log entry 1). -/
  inputs : List Delivery
  /-- MODEL's own: the bus's verdict on the frame the running step may offer (R190, R216; log entry 3). -/
  txOk : Bool
  /-- The frame the last step offered on `TX`. -/
  tx : Option RawFrame
  /-- The answer the last step gave on `CMD`. -/
  resp : Option HostResponse
  /-- The answer the last step gave on `PARSE`. -/
  parseOut : Option ParseAnswer
  /-- The answer the last step gave on `PACK`. -/
  packOut : Option PackAnswer
  deriving DecidableEq, Repr

/-- Why the machine stops. -/
inductive Fault where
  /-- Raised by `step` when no event is left: `stuck`, no step exists without an event (U8). Safe (log entry 2). -/
  | noEvent
  /-- Raised by a download segment whose bytes lie outside the buffer (R55: there is no such read). Only states that
  R40 (d) excludes raise it. Safe (log entry 11). -/
  | bufferRead
  deriving DecidableEq, Repr

/-- Why the model gives no meaning. -/
inductive Refusal where
  /-- Raised by an arm of `exec` that has no meaning yet; no arm raises it. Safe. -/
  | notModelled (mnemonic : String)
  deriving DecidableEq, Repr

/-- The state after reset, for a configuration: `X = X0`, nothing offered, nothing answered (R39, R290). `inputs` is empty and
`txOk` is not read before a step writes it (log entries 1, 3, 5). -/
def State.resetWith (cfg : Cfg) : State :=
  { x := .x0
    cfg := cfg
    inputs := []
    txOk := true
    tx := none
    resp := none
    parseOut := none
    packOut := none }

/-- The machine right after reset (R290), with the configuration of log entry 4. -/
def State.reset : State := State.resetWith Config.atReset

end Sys2Proof.Machine
end

