-- ==== Sys2Proof/Machine/Flags.lean ====
section
/-! DEFINITION. The one-bit predicates of 10_state.md R36 and 44_sdo_state_machine.md R190, and the status port: numeric codes (R21,
R22, R31), registers (R33) and the result of a transfer (R30). -/

namespace Sys2Proof.Machine

/-! ## Predicates of `st` -/

/-- `waiting(X)` of R190. -/
def Xfer.waiting (x : Xfer) : Bool :=
  match x.st with
  | .idle => false
  | .initiating => true
  | .segmenting => true
  | .done => false
  | .aborted => false
  | .timedOut => false
  | .error => false

/-- The terminal states (R21, R244). -/
def Xfer.terminal (x : Xfer) : Bool :=
  match x.st with
  | .idle => false
  | .initiating => false
  | .segmenting => false
  | .done => true
  | .aborted => true
  | .timedOut => true
  | .error => true

/-! ## The status port -/

/-- Codes of `st` (R21). -/
def St.code : St → Nat
  | .idle => 0
  | .initiating => 1
  | .segmenting => 2
  | .done => 3
  | .aborted => 4
  | .timedOut => 5
  | .error => 6

/-- A status decoder: code 7 and above stand for nothing (U26). -/
def St.ofCode : Nat → Option St
  | 0 => some .idle
  | 1 => some .initiating
  | 2 => some .segmenting
  | 3 => some .done
  | 4 => some .aborted
  | 5 => some .timedOut
  | 6 => some .error
  | _ => none

/-- Codes of `dir` (R22). -/
def Dir.code : Dir → Nat
  | .upload => 0
  | .download => 1

/-- Codes of `err` (R31). -/
def ErrKind.code : ErrKind → Nat
  | .none => 0
  | .timeout => 1
  | .remoteAbort => 2
  | .toggleMismatch => 3
  | .unexpectedResponse => 4
  | .classUnknownFunctionCode => 5
  | .classMalformedPayload => 6
  | .transportError => 7
  | .bufferOverflow => 8

/-- A status decoder: code 9 and above stand for nothing (U26). -/
def ErrKind.ofCode : Nat → Option ErrKind
  | 0 => some ErrKind.none
  | 1 => some .timeout
  | 2 => some .remoteAbort
  | 3 => some .toggleMismatch
  | 4 => some .unexpectedResponse
  | 5 => some .classUnknownFunctionCode
  | 6 => some .classMalformedPayload
  | 7 => some .transportError
  | 8 => some .bufferOverflow
  | _ => Option.none

/-- Register `k` of the status port, numbered in the order of R20 (R33). Number 10 is `buf`, which the status port does not
show (R30, R33). A number above 13 reads nothing (DESIGN CHOICE, safe, log entry 21). Reading has no side effect (R60 (d)). -/
def statusReg (x : Xfer) (k : Nat) : Option Nat :=
  match k with
  | 0 => some x.st.code
  | 1 => some x.dir.code
  | 2 => some x.node.toNat
  | 3 => some x.index.toNat
  | 4 => some x.sub.toNat
  | 5 => some x.exp.toNat
  | 6 => some x.toggle.toNat
  | 7 => some x.total.toNat
  | 8 => some x.totalValid.toNat
  | 9 => some x.remaining.toNat
  | 11 => some x.bufLen
  | 12 => some x.err.code
  | 13 => some x.abortCode.toNat
  | _ => none

/-- What the host may read as the result of a transfer (R30). -/
inductive HostResult where
  | noResult
  | bytes (data : List Byte)
  | unit
  | failure (err : ErrKind) (abortCode : BitVec 32)
  deriving DecidableEq, Repr

/-- The result of a transfer (R30): `buf` is exposed in `DONE` of an upload only. -/
def hostResult (x : Xfer) : HostResult :=
  match x.st with
  | .idle => .noResult
  | .initiating => .noResult
  | .segmenting => .noResult
  | .done =>
    match x.dir with
    | .upload => .bytes (x.buf.take x.bufLen)
    | .download => .unit
  | .aborted => .failure x.err x.abortCode
  | .timedOut => .failure x.err x.abortCode
  | .error => .failure x.err x.abortCode

end Sys2Proof.Machine
end

