-- ==== Sys2Proof/Machine/Ops.lean ====
section
/-! DEFINITION. The named operations every meaning is made of: the transfer buffer (20_memory.md R55), raising an error and
returning from one (60_exceptions.md R275, R276), offering a frame (44_sdo_state_machine.md R196, R216), and writing the ports. -/

namespace Sys2Proof.Machine

/-! ## The transfer buffer (R10, R55) -/

/-- `MemRead(a, n)` of R10: defined only inside the buffer. -/
def memRead (x : Xfer) (a n : Nat) : Option (List Byte) :=
  if a + n ≤ x.bufLen ∧ a + n ≤ x.buf.length then some ((x.buf.drop a).take n) else none

/-- `MemWrite(buf_len, n, v)` of R10 and R55, `n = len(v)`: append, defined only where it fits `BUF_MAX`. -/
def memWrite (cfg : Cfg) (x : Xfer) (v : List Byte) : Option Xfer :=
  if x.bufLen + v.length ≤ cfg.bufMax then some { x with buf := x.buf ++ v, bufLen := x.bufLen + v.length } else none

/-! ## Taking an error and returning from it -/

/-- `raise E` of R10 and R275, the one way an error is taken: `st <- S`, `err <- k`, nothing else. -/
def raise (x : Xfer) (st : St) (k : ErrKind) : Xfer := { x with st := st, err := k }

/-- `raise E` where the rule also records a code in `abort_code` (R275, R32). -/
def raiseWithCode (x : Xfer) (st : St) (k : ErrKind) (code : BitVec 32) : Xfer :=
  { raise x st k with abortCode := code }

/-- The return from a terminal state (R244, R276) and the effect of reset on `X` (R291): the record is dropped. -/
def dropTransfer (_x : Xfer) : Xfer := .x0

/-! ## Offering a frame -/

/-- `req(cmd)` of R196 and R222. -/
def req (x : Xfer) (cmd : SdoCommand) : RawFrame := (Message.sdoRequest (node8 x.node) cmd).encode

/-- `abort_out` of R222: raise with a code and offer the abort frame that carries it. -/
def abortOut (x : Xfer) (code : BitVec 32) (k : ErrKind) : Xfer × Option RawFrame :=
  (raiseWithCode x .aborted k code, some (req x (.abort x.index x.sub code)))

/-- `finish` of R222, R216: a frame the bus did not take turns the step's record into `ERROR`, `TransportError`. -/
def finish (x1 : Xfer) (tx : Option RawFrame) (txOk : Bool) : Xfer :=
  match tx with
  | none => x1
  | some _ => if txOk then x1 else raiseWithCode x1 .error .transportError 0#32

/-! ## Writing the ports -/

/-- The end of a step of the SSM or of a command: the new record, the frame offered, the answer on `CMD`. -/
def emit (s : State) (x : Xfer) (tx : Option RawFrame) (resp : Option HostResponse) : State :=
  { s with x := x, tx := tx, resp := resp, parseOut := none, packOut := none }

/-- The end of a step in which nothing is awaited (R192): `X` unchanged, no output. -/
def ignored (s : State) : State := emit s s.x none none

/-- A command refused: nothing changes (R240, R246). -/
def refuse (s : State) (reason : RefusalReason) : State := emit s s.x none (some (.refused reason))

/-- The answer on `PARSE` (R104): combinational, `X` not touched (R113). The step this is, and its empty `tx` and `resp`, are the
model's (DESIGN CHOICE, safe, log entry 24). -/
def emitParse (s : State) (res : Except ClassErr Message) : State :=
  { s with
    tx := none
    resp := none
    parseOut := some (match res with
      | .ok m => .ok m
      | .error e => .err e)
    packOut := none }

/-- The answer on `PACK` (R105): combinational, `X` not touched (R113). The step this is, and its empty `tx` and `resp`, are the
model's (DESIGN CHOICE, safe, log entry 24). -/
def emitPack (s : State) (a : PackAnswer) : State :=
  { s with tx := none, resp := none, parseOut := none, packOut := some a }

/-- `encode` on its domain, a refusal outside it (R103, U21). -/
def packAnswer (m : Message) : PackAnswer := if m.wf then .frame m.encode else .refused

end Sys2Proof.Machine
end

