-- ==== Sys2Proof/Machine/Ssm.lean ====
section
/-! DEFINITION. The SDO Segment State Machine (44_sdo_state_machine.md): the frames it emits (R196), what each response form does
(R197 to R210), the checks in their order (R213), and a frame form at a port. -/

namespace Sys2Proof.Machine

/-- A step's record and the frame it offers; a fault only where R55 has no such read. -/
abbrev SsmResult := Except Fault (Xfer × Option RawFrame)

/-! ## Commands the SSM emits (R196) -/

/-- `init_upload` of R196. -/
def initUpload (x : Xfer) : SdoCommand := .initUploadReq x.index x.sub

/-- `init_download_exp` of R196, for `1 <= buf_len <= 4`. -/
def initDownloadExp (x : Xfer) : SdoCommand :=
  .initDownloadReq (BitVec.ofNat 2 (4 - x.bufLen)) true true x.index x.sub (Bytes4.padded x.buf)

/-- `init_download_seg` of R196, for `buf_len >= 5`. -/
def initDownloadSeg (x : Xfer) : SdoCommand :=
  .initDownloadReq 0#2 false true x.index x.sub (bytesLe32 (BitVec.ofNat 32 x.bufLen))

/-- `download_segment(X, k, a)` of R196, given the bytes `X.buf[a .. a+k)`. -/
def downloadSegment (x : Xfer) (k : Nat) (bytes : List Byte) : SdoCommand :=
  .downloadSegReq x.toggle (BitVec.ofNat 3 (7 - k)) (decide (x.remaining.toNat = k)) (Bytes7.padded bytes)

/-- `send_segment` of R205. -/
def sendSegment (y : Xfer) : SsmResult :=
  let k := min 7 y.remaining.toNat
  if y.remaining.toNat ≤ y.bufLen then
    match memRead y (y.bufLen - y.remaining.toNat) k with
    | some bytes =>
      .ok ({ y with remaining := BitVec.ofNat 32 (y.remaining.toNat - k) }, some (req y (downloadSegment y k bytes)))
    | none => .error .bufferRead
  else .error .bufferRead

/-! ## One operation per response form (R198 to R210)

Of the sixteen combinations of waiting state, direction and non-abort response form, four are accepted and twelve are
uninterpretable (R222). The arms of the states that are not waiting are never used: `receive` ignores the frame there. -/

/-- R199: a response of the addressed node that cannot be interpreted. -/
def uninterpretable (cfg : Cfg) (x : Xfer) : Xfer × Option RawFrame :=
  abortOut x cfg.localAbortCode .unexpectedResponse

/-- `InitDownloadRsp` (R198, R200, R201). -/
def onInitDownloadRsp (cfg : Cfg) (x : Xfer) (index : BitVec 16) (sub : Byte) : SsmResult :=
  match x.st, x.dir with
  | .initiating, .download =>
    if index ≠ x.index ∨ sub ≠ x.sub then .ok (uninterpretable cfg x)
    else if x.exp then .ok ({ x with st := .done }, none)
    else sendSegment { x with st := .segmenting, toggle := false }
  | .initiating, .upload => .ok (uninterpretable cfg x)
  | .segmenting, .download => .ok (uninterpretable cfg x)
  | .segmenting, .upload => .ok (uninterpretable cfg x)
  | .idle, _ => .ok (uninterpretable cfg x)
  | .done, _ => .ok (uninterpretable cfg x)
  | .aborted, _ => .ok (uninterpretable cfg x)
  | .timedOut, _ => .ok (uninterpretable cfg x)
  | .error, _ => .ok (uninterpretable cfg x)

/-- The record after an expedited upload response (R202). -/
def acceptExpedited (x : Xfer) (n : BitVec 2) (sInd : Bool) (d : Bytes4) : Xfer :=
  { x with
    buf := d.toList.take (expLen n sInd)
    bufLen := expLen n sInd
    total := BitVec.ofNat 32 (expLen n sInd)
    totalValid := true
    remaining := 0#32
    st := .done }

/-- The record after a segmented upload response (R203). -/
def acceptSegmented (x : Xfer) (sInd : Bool) (d : Bytes4) : Xfer :=
  let tot := if sInd then le32 d.b0 d.b1 d.b2 d.b3 else 0#32
  { x with total := tot, totalValid := sInd, remaining := tot, st := .segmenting, toggle := false }

/-- `InitUploadRsp` (R198, R200, R202, R203). -/
def onInitUploadRsp (cfg : Cfg) (x : Xfer) (n : BitVec 2) (e sInd : Bool) (index : BitVec 16) (sub : Byte)
    (d : Bytes4) : SsmResult :=
  match x.st, x.dir with
  | .initiating, .upload =>
    if index ≠ x.index ∨ sub ≠ x.sub then .ok (uninterpretable cfg x)
    else if e then .ok (acceptExpedited x n sInd d, none)
    else .ok (acceptSegmented x sInd d, some (req x (.uploadSegReq false)))
  | .initiating, .download => .ok (uninterpretable cfg x)
  | .segmenting, .download => .ok (uninterpretable cfg x)
  | .segmenting, .upload => .ok (uninterpretable cfg x)
  | .idle, _ => .ok (uninterpretable cfg x)
  | .done, _ => .ok (uninterpretable cfg x)
  | .aborted, _ => .ok (uninterpretable cfg x)
  | .timedOut, _ => .ok (uninterpretable cfg x)
  | .error, _ => .ok (uninterpretable cfg x)

/-- R210: a segment response of the expected form with the wrong toggle. -/
def toggleMismatch (x : Xfer) : Xfer × Option RawFrame := (raise x .error .toggleMismatch, none)

/-- `DownloadSegRsp` (R198, R206, R210). -/
def onDownloadSegRsp (cfg : Cfg) (x : Xfer) (t : Bool) : SsmResult :=
  match x.st, x.dir with
  | .segmenting, .download =>
    if t ≠ x.toggle then .ok (toggleMismatch x)
    else if x.remaining = 0#32 then .ok ({ x with st := .done }, none)
    else sendSegment { x with toggle := !x.toggle }
  | .segmenting, .upload => .ok (uninterpretable cfg x)
  | .initiating, .download => .ok (uninterpretable cfg x)
  | .initiating, .upload => .ok (uninterpretable cfg x)
  | .idle, _ => .ok (uninterpretable cfg x)
  | .done, _ => .ok (uninterpretable cfg x)
  | .aborted, _ => .ok (uninterpretable cfg x)
  | .timedOut, _ => .ok (uninterpretable cfg x)
  | .error, _ => .ok (uninterpretable cfg x)

/-- `remaining <- max(remaining - k, 0)` on natural numbers (R207). -/
def countDown (x : Xfer) (k : Nat) : Xfer := { x with remaining := BitVec.ofNat 32 (x.remaining.toNat - k) }

/-- `UploadSegRsp` (R198, R207 to R210). -/
def onUploadSegRsp (cfg : Cfg) (x : Xfer) (t : Bool) (n : BitVec 3) (c : Bool) (d : Bytes7) : SsmResult :=
  match x.st, x.dir with
  | .segmenting, .upload =>
    if t ≠ x.toggle then .ok (toggleMismatch x)
    else
      match memWrite cfg x (d.toList.take (segLen n c)) with
      | none => .ok (abortOut x cfg.overflowAbortCode .bufferOverflow)
      | some y =>
        if c then .ok ({ countDown y (segLen n c) with st := .done }, none)
        else .ok ({ countDown y (segLen n c) with toggle := !x.toggle }, some (req x (.uploadSegReq (!x.toggle))))
  | .segmenting, .download => .ok (uninterpretable cfg x)
  | .initiating, .download => .ok (uninterpretable cfg x)
  | .initiating, .upload => .ok (uninterpretable cfg x)
  | .idle, _ => .ok (uninterpretable cfg x)
  | .done, _ => .ok (uninterpretable cfg x)
  | .aborted, _ => .ok (uninterpretable cfg x)
  | .timedOut, _ => .ok (uninterpretable cfg x)
  | .error, _ => .ok (uninterpretable cfg x)

/-- `Abort` from the addressed node (R197). -/
def onAbort (x : Xfer) (code : BitVec 32) : Xfer × Option RawFrame :=
  (raiseWithCode x .aborted .remoteAbort code, none)

/-- A response of the addressed node, by its form (R213 (4) to (8)). A request form is no well-formed response (R103). -/
def onResponse (cfg : Cfg) (x : Xfer) (cmd : SdoCommand) : SsmResult :=
  match cmd with
  | .abort _ _ code => .ok (onAbort x code)
  | .initDownloadRsp index sub => onInitDownloadRsp cfg x index sub
  | .initUploadRsp n e sInd index sub d => onInitUploadRsp cfg x n e sInd index sub d
  | .downloadSegRsp t => onDownloadSegRsp cfg x t
  | .uploadSegRsp t n c d => onUploadSegRsp cfg x t n c d
  | .initDownloadReq _ _ _ _ _ _ => .ok (uninterpretable cfg x)
  | .initUploadReq _ _ => .ok (uninterpretable cfg x)
  | .downloadSegReq _ _ _ _ => .ok (uninterpretable cfg x)
  | .uploadSegReq _ => .ok (uninterpretable cfg x)

/-! ## A frame while waiting (R193 to R195, R213) -/

/-- R193: the error a classification failure raises. -/
def classFailure (x : Xfer) (e : ClassErr) : Xfer :=
  match e with
  | .unknownFunctionCode => raise x .error .classUnknownFunctionCode
  | .malformedPayload => raise x .error .classMalformedPayload

/-- R194, R195: a frame that is no SDO response of the addressed node. -/
def foreignFrame (x : Xfer) : Xfer := raise x .error .unexpectedResponse

/-- `on_rx` of R222, given the result of decoding the frame: decode, kind, node, then the response (R213). -/
def onRx (cfg : Cfg) (x : Xfer) (res : Except ClassErr Message) : SsmResult :=
  match res with
  | .error e => .ok (classFailure x e, none)
  | .ok m =>
    match m with
    | .sdoResponse node cmd => if node ≠ node8 x.node then .ok (foreignFrame x, none) else onResponse cfg x cmd
    | .nmt _ _ => .ok (foreignFrame x, none)
    | .sync => .ok (foreignFrame x, none)
    | .emcy _ _ _ _ => .ok (foreignFrame x, none)
    | .pdo _ _ _ => .ok (foreignFrame x, none)
    | .sdoRequest _ _ => .ok (foreignFrame x, none)
    | .heartbeat _ _ => .ok (foreignFrame x, none)

/-- A step's end on the SSM's side: R216 applied, the frame shown as offered whatever the verdict (R222). -/
def concludeRx (s : State) (r : SsmResult) : Host.Outcome State Fault Refusal :=
  match r with
  | .error f => .fault f
  | .ok (x1, tx) => .next (emit s (finish x1 tx s.txOk) tx none)

/-- `step` on `Rx` (R222): consumed while waiting, ignored otherwise (R192). -/
def receive (res : Except ClassErr Message) (s : State) : Host.Outcome State Fault Refusal :=
  if s.x.waiting then concludeRx s (onRx s.cfg s.x res) else .next (ignored s)

/-- A frame form at a port (R35): received by the SSM, parsed for the host, or packed for the host. -/
def formAt (port : Port) (res : Except ClassErr Message) (s : State) : Host.Outcome State Fault Refusal :=
  match port with
  | .rx => receive res s
  | .parse => .next (emitParse s res)
  | .pack =>
    match res with
    | .ok m => .next (emitPack s (packAnswer m))
    | .error _ => .next (emitPack s .refused)

end Sys2Proof.Machine
end

