-- ==== Sys2Proof/Machine/HostCommands.lean ====
section
/-! DEFINITION. The five host commands (45_host_commands.md R241 to R245), their tests in the order of R246. -/

namespace Sys2Proof.Machine

/-- `NOP` (R245). -/
def execNop (s : State) : Host.Outcome State Fault Refusal := .next (emit s s.x none (some .accepted))

/-- `SEND` (R241): `X` is not touched, the failed case included. -/
def execSend (m : Message) (s : State) : Host.Outcome State Fault Refusal :=
  if s.x.waiting then .next (refuse s .busy)
  else if m.wf then
    .next (emit s s.x (some m.encode) (some (if s.txOk then .accepted else .failedTransportError)))
  else .next (refuse s .badMessage)

/-- The record a read creates (R242). -/
def newUpload (node : BitVec 8) (index : BitVec 16) (sub : Byte) : Xfer :=
  { Xfer.x0 with st := .initiating, dir := .upload, node := node7 node, index := index, sub := sub }

/-- The record a write creates (R243). -/
def newDownload (node : BitVec 8) (index : BitVec 16) (sub : Byte) (data : List Byte) : Xfer :=
  { Xfer.x0 with
    st := .initiating
    dir := .download
    node := node7 node
    index := index
    sub := sub
    exp := decide (data.length ≤ 4)
    buf := data
    bufLen := data.length
    total := BitVec.ofNat 32 data.length
    totalValid := true
    remaining := if data.length ≤ 4 then 0#32 else BitVec.ofNat 32 data.length }

/-- The start of a transfer: its initiate frame is offered, R216 applied, the answer `Accepted` in every case (R242, R243). -/
def start (s : State) (x1 : Xfer) (cmd : SdoCommand) : State :=
  emit s (finish x1 (some (req x1 cmd)) s.txOk) (some (req x1 cmd)) (some .accepted)

/-- `SDO_READ` (R242). -/
def execSdoRead (node : BitVec 8) (index : BitVec 16) (sub : Byte) (s : State) : Host.Outcome State Fault Refusal :=
  if s.x.st ≠ .idle then .next (refuse s .notIdle)
  else if isNodeId node then
    .next (start s (newUpload node index sub) (initUpload (newUpload node index sub)))
  else .next (refuse s .badNode)

/-- The initiate command of a write: expedited up to four bytes (R243). -/
def initDownload (x1 : Xfer) : SdoCommand := if x1.bufLen ≤ 4 then initDownloadExp x1 else initDownloadSeg x1

/-- `SDO_WRITE` (R243). -/
def execSdoWrite (node : BitVec 8) (index : BitVec 16) (sub : Byte) (data : List Byte) (s : State) :
    Host.Outcome State Fault Refusal :=
  if s.x.st ≠ .idle then .next (refuse s .notIdle)
  else if isNodeId node then
    if data.length = 0 ∨ s.cfg.bufMax < data.length then .next (refuse s .badLength)
    else .next (start s (newDownload node index sub data) (initDownload (newDownload node index sub data)))
  else .next (refuse s .badNode)

/-- `ACK` (R244). -/
def execAck (s : State) : Host.Outcome State Fault Refusal :=
  if s.x.terminal then .next (emit s (dropTransfer s.x) none (some .accepted)) else .next (refuse s .nothingToAck)

end Sys2Proof.Machine
end

