-- ==== Sys2Proof/Machine/IdentifierForms.lean ====
section
/-! DEFINITION. The fourteen identifier rows (41_message_classifier.md R132 to R145) with the payloads of 40_frame_codec.md. -/

namespace Sys2Proof.Machine

/-- `NMT` (R132): identifier 0x000; the payload by R156. -/
def execNmt (port : Port) (p : List Byte) (s : State) : Host.Outcome State Fault Refusal :=
  formAt port (nmtResult p) s

/-- `SYNC` (R133, R106): identifier 0x080; any payload, dropped. -/
def execSync (port : Port) (_p : List Byte) (s : State) : Host.Outcome State Fault Refusal :=
  formAt port (.ok .sync) s

/-- `EMCY` (R134, R107): identifiers 0x081 to 0x0FF. -/
def execEmcy (port : Port) (node : BitVec 7) (p : List Byte) (s : State) : Host.Outcome State Fault Refusal :=
  formAt port (decodeEmcy (node8 node) p) s

/-- `TPDO1` (R135, R108): identifiers 0x181 to 0x1FF, slot (1, Tx). -/
def execTpdo1 (port : Port) (node : BitVec 7) (p : List Byte) (s : State) : Host.Outcome State Fault Refusal :=
  formAt port (.ok (.pdo (node8 node) ⟨1, .tx⟩ p)) s

/-- `RPDO1` (R136, R108): identifiers 0x201 to 0x27F, slot (1, Rx). -/
def execRpdo1 (port : Port) (node : BitVec 7) (p : List Byte) (s : State) : Host.Outcome State Fault Refusal :=
  formAt port (.ok (.pdo (node8 node) ⟨1, .rx⟩ p)) s

/-- `TPDO2` (R137, R108): identifiers 0x281 to 0x2FF, slot (2, Tx). -/
def execTpdo2 (port : Port) (node : BitVec 7) (p : List Byte) (s : State) : Host.Outcome State Fault Refusal :=
  formAt port (.ok (.pdo (node8 node) ⟨2, .tx⟩ p)) s

/-- `RPDO2` (R138, R108): identifiers 0x301 to 0x37F, slot (2, Rx). -/
def execRpdo2 (port : Port) (node : BitVec 7) (p : List Byte) (s : State) : Host.Outcome State Fault Refusal :=
  formAt port (.ok (.pdo (node8 node) ⟨2, .rx⟩ p)) s

/-- `TPDO3` (R139, R108): identifiers 0x381 to 0x3FF, slot (3, Tx). -/
def execTpdo3 (port : Port) (node : BitVec 7) (p : List Byte) (s : State) : Host.Outcome State Fault Refusal :=
  formAt port (.ok (.pdo (node8 node) ⟨3, .tx⟩ p)) s

/-- `RPDO3` (R140, R108): identifiers 0x401 to 0x47F, slot (3, Rx). -/
def execRpdo3 (port : Port) (node : BitVec 7) (p : List Byte) (s : State) : Host.Outcome State Fault Refusal :=
  formAt port (.ok (.pdo (node8 node) ⟨3, .rx⟩ p)) s

/-- `TPDO4` (R141, R108): identifiers 0x481 to 0x4FF, slot (4, Tx). -/
def execTpdo4 (port : Port) (node : BitVec 7) (p : List Byte) (s : State) : Host.Outcome State Fault Refusal :=
  formAt port (.ok (.pdo (node8 node) ⟨4, .tx⟩ p)) s

/-- `RPDO4` (R142, R108): identifiers 0x501 to 0x57F, slot (4, Rx). -/
def execRpdo4 (port : Port) (node : BitVec 7) (p : List Byte) (s : State) : Host.Outcome State Fault Refusal :=
  formAt port (.ok (.pdo (node8 node) ⟨4, .rx⟩ p)) s

/-- `SDO_RSP` (R143): identifiers 0x581 to 0x5FF; the payload by R172. -/
def execSdoRsp (port : Port) (node : BitVec 7) (p : List Byte) (s : State) : Host.Outcome State Fault Refusal :=
  formAt port (sdoRspResult node p) s

/-- `SDO_REQ` (R144): identifiers 0x601 to 0x67F; the payload by R171. -/
def execSdoReq (port : Port) (node : BitVec 7) (p : List Byte) (s : State) : Host.Outcome State Fault Refusal :=
  formAt port (sdoReqResult node p) s

/-- `HEARTBEAT` (R145, R109): identifiers 0x701 to 0x77F. -/
def execHeartbeat (port : Port) (node : BitVec 7) (p : List Byte) (s : State) : Host.Outcome State Fault Refusal :=
  formAt port (decodeHeartbeat (node8 node) p) s

end Sys2Proof.Machine
end

