-- ==== Sys2Proof/Machine/NmtForms.lean ====
section
/-! DEFINITION. The five NMT functions (42_nmt_encoder.md R151 to R155): on `PACK` the NMT Encoder's `build` (R150), on `PARSE` its
inverse (R156); the SSM never expects one (R157), so on `RX` it is foreign traffic (44_sdo_state_machine.md R194). -/

namespace Sys2Proof.Machine

/-- An NMT command at a port. -/
def nmtAt (port : Port) (f : NmtFunction) (target : BitVec 7) (s : State) : Host.Outcome State Fault Refusal :=
  formAt port (.ok (.nmt f (node8 target))) s

/-- `NMT_START_REMOTE_NODE` (R151). -/
def execNmtStartRemoteNode (port : Port) (target : BitVec 7) (s : State) : Host.Outcome State Fault Refusal :=
  nmtAt port .startRemoteNode target s

/-- `NMT_STOP_REMOTE_NODE` (R152). -/
def execNmtStopRemoteNode (port : Port) (target : BitVec 7) (s : State) : Host.Outcome State Fault Refusal :=
  nmtAt port .stopRemoteNode target s

/-- `NMT_ENTER_PRE_OPERATIONAL` (R153). -/
def execNmtEnterPreOperational (port : Port) (target : BitVec 7) (s : State) : Host.Outcome State Fault Refusal :=
  nmtAt port .enterPreOperational target s

/-- `NMT_RESET_NODE` (R154). -/
def execNmtResetNode (port : Port) (target : BitVec 7) (s : State) : Host.Outcome State Fault Refusal :=
  nmtAt port .resetNode target s

/-- `NMT_RESET_COMMUNICATION` (R155). -/
def execNmtResetCommunication (port : Port) (target : BitVec 7) (s : State) : Host.Outcome State Fault Refusal :=
  nmtAt port .resetCommunication target s

end Sys2Proof.Machine
end

