-- ==== Sys2Proof/Machine/SdoForms.lean ====
section
/-! DEFINITION. The ten SDO frame forms (43_sdo_command_codec.md R161 to R170). What a response form does to a transfer stands in
Sys2Proof/Machine/Ssm.lean; a request form on `RX` is foreign traffic (44_sdo_state_machine.md R194). -/

namespace Sys2Proof.Machine

/-- A request form of a node at a port. -/
def requestAt (port : Port) (node : BitVec 7) (cmd : SdoCommand) (s : State) : Host.Outcome State Fault Refusal :=
  formAt port (.ok (.sdoRequest (node8 node) cmd)) s

/-- A response form of a node at a port. -/
def responseAt (port : Port) (node : BitVec 7) (cmd : SdoCommand) (s : State) : Host.Outcome State Fault Refusal :=
  formAt port (.ok (.sdoResponse (node8 node) cmd)) s

/-- `SDO_DL_SEG_REQ` (R163). -/
def execSdoDlSegReq (port : Port) (node : BitVec 7) (t : Bool) (n : BitVec 3) (c : Bool) (d : Bytes7) (s : State) :
    Host.Outcome State Fault Refusal :=
  requestAt port node (.downloadSegReq t n c d) s

/-- `SDO_DL_INIT_REQ` (R161). -/
def execSdoDlInitReq (port : Port) (node : BitVec 7) (n : BitVec 2) (e sInd : Bool) (index : BitVec 16) (sub : Byte)
    (d : Bytes4) (s : State) : Host.Outcome State Fault Refusal :=
  requestAt port node (.initDownloadReq n e sInd index sub d) s

/-- `SDO_UL_INIT_REQ` (R162). -/
def execSdoUlInitReq (port : Port) (node : BitVec 7) (index : BitVec 16) (sub : Byte) (s : State) :
    Host.Outcome State Fault Refusal :=
  requestAt port node (.initUploadReq index sub) s

/-- `SDO_UL_SEG_REQ` (R164). -/
def execSdoUlSegReq (port : Port) (node : BitVec 7) (t : Bool) (s : State) : Host.Outcome State Fault Refusal :=
  requestAt port node (.uploadSegReq t) s

/-- `SDO_ABORT_REQ` (R165). -/
def execSdoAbortReq (port : Port) (node : BitVec 7) (index : BitVec 16) (sub : Byte) (code : BitVec 32) (s : State) :
    Host.Outcome State Fault Refusal :=
  requestAt port node (.abort index sub code) s

/-- `SDO_UL_SEG_RSP` (R169; R207 to R210). -/
def execSdoUlSegRsp (port : Port) (node : BitVec 7) (t : Bool) (n : BitVec 3) (c : Bool) (d : Bytes7) (s : State) :
    Host.Outcome State Fault Refusal :=
  responseAt port node (.uploadSegRsp t n c d) s

/-- `SDO_DL_SEG_RSP` (R168; R206, R210). -/
def execSdoDlSegRsp (port : Port) (node : BitVec 7) (t : Bool) (s : State) : Host.Outcome State Fault Refusal :=
  responseAt port node (.downloadSegRsp t) s

/-- `SDO_UL_INIT_RSP` (R167; R200, R202, R203). -/
def execSdoUlInitRsp (port : Port) (node : BitVec 7) (n : BitVec 2) (e sInd : Bool) (index : BitVec 16) (sub : Byte)
    (d : Bytes4) (s : State) : Host.Outcome State Fault Refusal :=
  responseAt port node (.initUploadRsp n e sInd index sub d) s

/-- `SDO_DL_INIT_RSP` (R166; R200, R201). -/
def execSdoDlInitRsp (port : Port) (node : BitVec 7) (index : BitVec 16) (sub : Byte) (s : State) :
    Host.Outcome State Fault Refusal :=
  responseAt port node (.initDownloadRsp index sub) s

/-- `SDO_ABORT_RSP` (R170; R197). -/
def execSdoAbortRsp (port : Port) (node : BitVec 7) (index : BitVec 16) (sub : Byte) (code : BitVec 32) (s : State) :
    Host.Outcome State Fault Refusal :=
  responseAt port node (.abort index sub code) s

end Sys2Proof.Machine
end

