-- ==== Sys2Proof/Machine/Dispatch.lean ====
section
/-! DEFINITION. The dispatch: one arm per constructor of `Instr`, each one call of its meaning. -/

namespace Sys2Proof.Machine

/-- The meaning of an instruction in a state. -/
def exec (i : Instr) (s : State) : Host.Outcome State Fault Refusal :=
  match i with
  | .nmt port p => Sys2Proof.Machine.execNmt port p s
  | .sync port p => Sys2Proof.Machine.execSync port p s
  | .emcy port node p => Sys2Proof.Machine.execEmcy port node p s
  | .tpdo1 port node p => Sys2Proof.Machine.execTpdo1 port node p s
  | .rpdo1 port node p => Sys2Proof.Machine.execRpdo1 port node p s
  | .tpdo2 port node p => Sys2Proof.Machine.execTpdo2 port node p s
  | .rpdo2 port node p => Sys2Proof.Machine.execRpdo2 port node p s
  | .tpdo3 port node p => Sys2Proof.Machine.execTpdo3 port node p s
  | .rpdo3 port node p => Sys2Proof.Machine.execRpdo3 port node p s
  | .tpdo4 port node p => Sys2Proof.Machine.execTpdo4 port node p s
  | .rpdo4 port node p => Sys2Proof.Machine.execRpdo4 port node p s
  | .sdoRsp port node p => Sys2Proof.Machine.execSdoRsp port node p s
  | .sdoReq port node p => Sys2Proof.Machine.execSdoReq port node p s
  | .heartbeat port node p => Sys2Proof.Machine.execHeartbeat port node p s
  | .sdoDlSegReq port node t n c d => Sys2Proof.Machine.execSdoDlSegReq port node t n c d s
  | .sdoDlInitReq port node n e sInd index sub d => Sys2Proof.Machine.execSdoDlInitReq port node n e sInd index sub d s
  | .sdoUlInitReq port node index sub => Sys2Proof.Machine.execSdoUlInitReq port node index sub s
  | .sdoUlSegReq port node t => Sys2Proof.Machine.execSdoUlSegReq port node t s
  | .sdoAbortReq port node index sub code => Sys2Proof.Machine.execSdoAbortReq port node index sub code s
  | .sdoUlSegRsp port node t n c d => Sys2Proof.Machine.execSdoUlSegRsp port node t n c d s
  | .sdoDlSegRsp port node t => Sys2Proof.Machine.execSdoDlSegRsp port node t s
  | .sdoUlInitRsp port node n e sInd index sub d => Sys2Proof.Machine.execSdoUlInitRsp port node n e sInd index sub d s
  | .sdoDlInitRsp port node index sub => Sys2Proof.Machine.execSdoDlInitRsp port node index sub s
  | .sdoAbortRsp port node index sub code => Sys2Proof.Machine.execSdoAbortRsp port node index sub code s
  | .nmtStartRemoteNode port target => Sys2Proof.Machine.execNmtStartRemoteNode port target s
  | .nmtStopRemoteNode port target => Sys2Proof.Machine.execNmtStopRemoteNode port target s
  | .nmtEnterPreOperational port target => Sys2Proof.Machine.execNmtEnterPreOperational port target s
  | .nmtResetNode port target => Sys2Proof.Machine.execNmtResetNode port target s
  | .nmtResetCommunication port target => Sys2Proof.Machine.execNmtResetCommunication port target s
  | .nop => Sys2Proof.Machine.execNop s
  | .send m => Sys2Proof.Machine.execSend m s
  | .sdoRead node index sub => Sys2Proof.Machine.execSdoRead node index sub s
  | .sdoWrite node index sub data => Sys2Proof.Machine.execSdoWrite node index sub data s
  | .ack => Sys2Proof.Machine.execAck s

end Sys2Proof.Machine
end

