-- ==== Sys2Proof/Machine/Fetch.lean ====
section
/-! DEFINITION. Fetching: the oldest delivery is taken and decoded; the events that are no instruction are carried out here
(44_sdo_state_machine.md R190, R192, R193, R214, R215; 45_host_commands.md R246; 70_reset_and_hazards.md R290, R291). -/

namespace Sys2Proof.Machine

/-- What a fetch gives: nothing to take, an instruction to run, or the state an event that is no instruction leaves. -/
inductive Fetched where
  | noEvent
  | run (i : Instr) (s : State)
  | done (s : State)

/-- An event that ends a waiting transfer and is ignored otherwise (R192). -/
def endTransfer (s : State) (st : St) (k : ErrKind) : State :=
  if s.x.waiting then emit s (raise s.x st k) none none else ignored s

/-- `Timeout` (R214). -/
def onTimeout (s : State) : State := endTransfer s .timedOut .timeout

/-- `RxIoError` (R215). -/
def onRxIoError (s : State) : State := endTransfer s .error .transportError

/-- A frame that is no instruction: `decode` fails at its length or its identifier (R101, R104, R193). -/
def onBadFrame (port : Port) (e : ClassErr) (s : State) : State :=
  match port with
  | .rx => if s.x.waiting then emit s (classFailure s.x e) none none else ignored s
  | .parse => emitParse s (.error e)
  | .pack => emitPack s .refused

/-- Reset (R290, R291): `X0`, no output, the configuration kept. -/
def onReset (s : State) : State := emit s (dropTransfer s.x) none none

/-- The oldest delivery is taken; its verdict stands for the step (R190). -/
def take (s : State) (d : Delivery) (rest : List Delivery) : State := { s with inputs := rest, txOk := d.txOk }

/-- A decoded event in the state that took it. -/
def fetchDecoded (dec : Decoded) (s : State) : Fetched :=
  match dec with
  | .instr i => .run i s
  | .badFrame port e => .done (onBadFrame port e s)
  | .badCommand _ => .done (refuse s .badCommand)
  | .badMessage _ => .done (emitPack s .refused)
  | .timeout => .done (onTimeout s)
  | .rxIoError => .done (onRxIoError s)
  | .reset => .done (onReset s)

/-- The next event of the machine. -/
def fetch (s : State) : Fetched :=
  match s.inputs with
  | [] => .noEvent
  | d :: rest => fetchDecoded (decodeEvent d.ev) (take s d rest)

/-- `s` with a table word's port value delivered before everything else (log entries 13, 14); `s` itself where no port value
holds the word. -/
def deliverWord (s : State) (nbits w : Nat) : State :=
  match tableWordEvent nbits w with
  | some ev => { s with inputs := { ev := ev, txOk := true } :: s.inputs }
  | none => s

end Sys2Proof.Machine
end

