-- ==== Sys2Proof/Machine/Step.lean ====
section
/-! DEFINITION. The step function (44_sdo_state_machine.md R190): one event, one atomic step. -/

namespace Sys2Proof.Machine

/-- One step: the next event is fetched and carried out; without an event no step exists (U8). -/
def step (s : State) : Host.Outcome State Fault Refusal :=
  match fetch s with
  | .noEvent => .fault .noEvent
  | .run i s1 => exec i s1
  | .done s1 => .next s1

/-- `s` with the instruction of a table word stored where `step` fetches its next one. -/
def State.withFetchWord (s : State) (nbits w : Nat) : State := deliverWord s nbits w

end Sys2Proof.Machine
end

