-- ==== Sys2Proof/Safety.lean ====
section
/-! DEFINITION. The terms claims use: the invariants of 10_state.md R40 and R25 to R32, canonical frames (40_frame_codec.md R112,
43_sdo_command_codec.md R175), and the step function of the spec transcribed whole from 44_sdo_state_machine.md R222 and
45_host_commands.md R240 to R244, for the machine's step to be compared with. -/

namespace Sys2Proof.Machine

/-! ## Invariants -/

/-- R40 (a) to (i); (j) holds by the type `St`. -/
structure Xfer.Inv (cfg : Cfg) (x : Xfer) : Prop where
  /-- R40 (a). -/
  idle_is_x0 : x.st = .idle → x = .x0
  /-- R40 (b): the field is 7 bits wide, so at most 127. -/
  node_is_nodeId : x.st ≠ .idle → 1 ≤ x.node.toNat
  /-- R40 (c). -/
  bufLen_is_length : x.bufLen = x.buf.length
  /-- R40 (c). -/
  buf_fits : x.bufLen ≤ cfg.bufMax
  /-- R40 (d). -/
  download_counts : x.dir = .download →
    x.remaining.toNat ≤ x.bufLen ∧ x.total.toNat = x.bufLen ∧ x.totalValid = true ∧ 1 ≤ x.bufLen ∧
      (x.exp = true ↔ x.bufLen ≤ 4)
  /-- R40 (e). -/
  expedited_download : x.dir = .download → x.exp = true → x.remaining = 0#32 ∧ x.st ≠ .segmenting
  /-- R40 (f). -/
  segmented_download : x.dir = .download → x.st = .initiating → x.exp = false →
    x.remaining.toNat = x.bufLen ∧ 5 ≤ x.bufLen
  /-- R40 (g). -/
  no_error : x.err = .none ↔ x.st = .idle ∨ x.st = .initiating ∨ x.st = .segmenting ∨ x.st = .done
  /-- R40 (h), first part. -/
  timed_out : x.st = .timedOut ↔ x.err = .timeout
  /-- R40 (h), second part, as far as a state shows it. -/
  aborted_kinds : x.st = .aborted → x.err = .remoteAbort ∨ x.err = .unexpectedResponse ∨ x.err = .bufferOverflow
  /-- R40 (h), second part. -/
  abort_only_kinds : x.err = .remoteAbort ∨ x.err = .bufferOverflow → x.st = .aborted
  /-- R40 (h), third part. -/
  error_kinds : x.st = .error → x.err = .toggleMismatch ∨ x.err = .unexpectedResponse ∨
    x.err = .classUnknownFunctionCode ∨ x.err = .classMalformedPayload ∨ x.err = .transportError
  /-- R40 (i). -/
  toggle_starts_at_zero : x.st = .initiating → x.toggle = false

/-- What R25, R27, R28, R29 and R32 say of the records `exp`, `total`, `remaining`, `buf` and `abort_code`. -/
structure Xfer.Records (cfg : Cfg) (x : Xfer) : Prop where
  /-- R32: outside `ABORTED` the code is 0. -/
  no_code : x.st ≠ .aborted → x.abortCode = 0#32
  /-- R32: the code the block sent (R199). -/
  local_code : x.st = .aborted → x.err = .unexpectedResponse → x.abortCode = cfg.localAbortCode
  /-- R32: the code the block sent (R208). -/
  overflow_code : x.err = .bufferOverflow → x.abortCode = cfg.overflowAbortCode
  /-- R25: for an upload `exp` is 0. -/
  upload_exp : x.dir = .upload → x.exp = false
  /-- R28: an upload counts the announced total minus the bytes accepted so far, saturating at 0. -/
  upload_remaining : x.dir = .upload → x.totalValid = true → x.remaining.toNat = x.total.toNat - x.bufLen
  /-- R27, R28: no announced size, no total and no count. -/
  upload_no_size : x.dir = .upload → x.totalValid = false → x.total = 0#32 ∧ x.remaining = 0#32
  /-- R29: the buffer of an upload is empty until a response is accepted. -/
  upload_buffer_empty : x.dir = .upload → x.st = .initiating → x.buf = [] ∧ x.totalValid = false

/-- The invariant of the machine: R5's bounds and R40. -/
structure State.Inv (s : State) : Prop where
  cfg_wf : s.cfg.WF
  xfer : s.x.Inv s.cfg

/-! ## The transfer buffer -/

/-- The buffer's form (R29, R55): as many bytes as `buf_len` says, within `BUF_MAX`. -/
abbrev Memory.wf (cfg : Cfg) (x : Xfer) : Prop := x.bufLen = x.buf.length ∧ x.bufLen ≤ cfg.bufMax

/-! ## Next states, written field by field for the statements -/

/-- `waiting(X)` of R190. -/
abbrev Xfer.Waits (x : Xfer) : Prop := x.st = .initiating ∨ x.st = .segmenting

/-- A state that differs from `s` in the record, the frame offered and the answer on `CMD`, with nothing on the codec ports. -/
def State.after (s : State) (x : Xfer) (tx : Option RawFrame) (resp : Option HostResponse) : State :=
  { x := x, cfg := s.cfg, inputs := s.inputs, txOk := s.txOk, tx := tx, resp := resp, parseOut := none, packOut := none }

/-- `s` after a step that computed the record `x1` and offers `f`: R216 turns a refused frame into `ERROR`. -/
def State.afterOffer (s : State) (x1 : Xfer) (f : RawFrame) (resp : Option HostResponse) : State :=
  s.after (if s.txOk = true then x1 else { x1 with st := .error, err := .transportError, abortCode := 0#32 }) (some f) resp

/-- A state that differs from `s` in the answer on `PARSE`, with nothing on the other ports. -/
def State.parsed (s : State) (a : ParseAnswer) : State :=
  { x := s.x, cfg := s.cfg, inputs := s.inputs, txOk := s.txOk, tx := none, resp := none, parseOut := some a, packOut := none }

/-- A state that differs from `s` in the answer on `PACK`, with nothing on the other ports. -/
def State.packed (s : State) (a : PackAnswer) : State :=
  { x := s.x, cfg := s.cfg, inputs := s.inputs, txOk := s.txOk, tx := none, resp := none, parseOut := none, packOut := some a }

/-- A state that took a delivery. -/
def State.took (s : State) (d : Delivery) (rest : List Delivery) : State :=
  { x := s.x, cfg := s.cfg, inputs := rest, txOk := d.txOk, tx := s.tx, resp := s.resp, parseOut := s.parseOut,
    packOut := s.packOut }

/-- An SDO request frame of a node: identifier `0x600 | node`, eight bytes (R56, R73). -/
def requestFrame (node : BitVec 7) (b : Bytes8) : RawFrame := { id := 0x600#11 ||| node.setWidth 11, dlc := 8#4, data := b }

/-- An SDO response frame of a node: identifier `0x580 | node`, eight bytes (R56, R73). -/
def responseFrame (node : BitVec 7) (b : Bytes8) : RawFrame := { id := 0x580#11 ||| node.setWidth 11, dlc := 8#4, data := b }

/-- The abort frame of a transfer: `80`, the object address, the code, little-endian (R165, R199). -/
def abortFrame (x : Xfer) (code : BitVec 32) : RawFrame :=
  requestFrame x.node ⟨0x80#8, x.index.extractLsb' 0 8, x.index.extractLsb' 8 8, x.sub, code.extractLsb' 0 8,
    code.extractLsb' 8 8, code.extractLsb' 16 8, code.extractLsb' 24 8⟩

/-- The response form expected in (`X.st`, `X.dir`) (R198). -/
def expectedForm (x : Xfer) (cmd : SdoCommand) : Prop :=
  match cmd with
  | .initDownloadRsp _ _ => x.st = .initiating ∧ x.dir = .download
  | .initUploadRsp _ _ _ _ _ _ => x.st = .initiating ∧ x.dir = .upload
  | .downloadSegRsp _ => x.st = .segmenting ∧ x.dir = .download
  | .uploadSegRsp _ _ _ _ => x.st = .segmenting ∧ x.dir = .upload
  | .abort _ _ _ => False
  | .initDownloadReq _ _ _ _ _ _ => False
  | .initUploadReq _ _ => False
  | .downloadSegReq _ _ _ _ => False
  | .uploadSegReq _ => False

/-- An initiate response that echoes another address than the transfer's (R200). -/
def otherAddress (x : Xfer) (cmd : SdoCommand) : Prop :=
  match cmd with
  | .initDownloadRsp index sub => index ≠ x.index ∨ sub ≠ x.sub
  | .initUploadRsp _ _ _ index sub _ => index ≠ x.index ∨ sub ≠ x.sub
  | .downloadSegRsp _ => False
  | .uploadSegRsp _ _ _ _ => False
  | .abort _ _ _ => False
  | .initDownloadReq _ _ _ _ _ _ => False
  | .initUploadReq _ _ => False
  | .downloadSegReq _ _ _ _ => False
  | .uploadSegReq _ => False

/-- The instruction of a non-abort response form received from a node (R160, R75), none for the other commands. -/
def receivedResponse (node : BitVec 7) (cmd : SdoCommand) : Option Instr :=
  match cmd with
  | .initDownloadRsp index sub => some (.sdoDlInitRsp .rx node index sub)
  | .initUploadRsp n e sInd index sub d => some (.sdoUlInitRsp .rx node n e sInd index sub d)
  | .downloadSegRsp t => some (.sdoDlSegRsp .rx node t)
  | .uploadSegRsp t n c d => some (.sdoUlSegRsp .rx node t n c d)
  | .abort _ _ _ => none
  | .initDownloadReq _ _ _ _ _ _ => none
  | .initUploadReq _ _ => none
  | .downloadSegReq _ _ _ _ => none
  | .uploadSegReq _ => none

/-- The instruction of a PDO row (R135 to R142), by its slot. -/
def pdoRow (k : Fin 4) (dir : PdoDir) (port : Port) (node : BitVec 7) (p : List Byte) : Instr :=
  match k, dir with
  | 0, .tx => .tpdo1 port node p
  | 0, .rx => .rpdo1 port node p
  | 1, .tx => .tpdo2 port node p
  | 1, .rx => .rpdo2 port node p
  | 2, .tx => .tpdo3 port node p
  | 2, .rx => .rpdo3 port node p
  | 3, .tx => .tpdo4 port node p
  | 3, .rx => .rpdo4 port node p

/-- The segment a download in record `y` sends next, and the record after it, as R205 gives them. -/
def segmentFrame (y : Xfer) : RawFrame :=
  let k := min 7 y.remaining.toNat
  let a := y.bufLen - y.remaining.toNat
  let last := decide (y.remaining.toNat = k)
  let b := fun i => if i < k then y.buf.getD (a + i) 0#8 else 0#8
  requestFrame y.node ⟨0#3 ++ BitVec.ofBool y.toggle ++ BitVec.ofNat 3 (7 - k) ++ BitVec.ofBool last,
    b 0, b 1, b 2, b 3, b 4, b 5, b 6⟩

/-- `remaining` after that segment (R205). -/
def afterSegment (y : Xfer) : Xfer := { y with remaining := y.remaining - BitVec.ofNat 32 (min 7 y.remaining.toNat) }

/-- The reason a command is refused, by the tests of R246 in their order: opcode, state, operands (node before data). -/
def refusalOf (cfg : Cfg) (x : Xfer) (c : RawCmd) : Option RefusalReason :=
  if 5 ≤ c.op.toNat then some .badCommand
  else if c.op = 1#3 then
    if x.Waits then some .busy else if c.msg.wf = true then none else some .badMessage
  else if c.op = 2#3 then
    if x.st ≠ .idle then some .notIdle
    else if c.node.toNat < 1 ∨ 127 < c.node.toNat then some .badNode else none
  else if c.op = 3#3 then
    if x.st ≠ .idle then some .notIdle
    else if c.node.toNat < 1 ∨ 127 < c.node.toNat then some .badNode
    else if c.data.length < 1 ∨ cfg.bufMax < c.data.length then some .badLength else none
  else if c.op = 4#3 then
    if x.st = .idle ∨ x.Waits then some .nothingToAck else none
  else none

/-! ## Whole segmented transfers (R54, R211, R219) -/

/-- The number of segments of a datum: `ceil(L / 7)`, at least one (R219). -/
def segmentCount (data : List Byte) : Nat := max 1 ((data.length + 6) / 7)

/-- Segment `j` of a datum, as the eight payload bytes of a segment data form: toggle `j mod 2`, the bytes
`data[7*j .. min(7*j + 7, L))`, `c` on the last segment, `n` the unused bytes (R54, R205, R211). -/
def segmentBytes (data : List Byte) (j : Nat) : Bytes8 :=
  let k := min 7 (data.length - 7 * j)
  let b := fun i => if i < k then data.getD (7 * j + i) 0#8 else 0#8
  ⟨0#3 ++ BitVec.ofBool (decide (j % 2 = 1)) ++ BitVec.ofNat 3 (7 - k) ++ BitVec.ofBool (decide (j + 1 = segmentCount data)),
    b 0, b 1, b 2, b 3, b 4, b 5, b 6⟩

/-- Command byte with toggle `j mod 2` and specifier `cs`, seven zero bytes: the forms that carry only a toggle (R164, R168). -/
def toggleBytes (cs : BitVec 3) (j : Nat) : Bytes8 :=
  ⟨cs ++ BitVec.ofBool (decide (j % 2 = 1)) ++ 0#4, 0#8, 0#8, 0#8, 0#8, 0#8, 0#8, 0#8⟩

/-- A frame delivered on `RX` in a step whose own frame, if any, the bus takes. -/
def delivered (r : RawFrame) : Delivery := { ev := .rx r, txOk := true }

/-- The deliveries of a segmented write whose server acknowledges everything (R243, R201, R206). -/
def downloadInputs (node : BitVec 7) (index : BitVec 16) (sub : Byte) (data : List Byte) : List Delivery :=
  { ev := .cmd { cmdWord 3#3 with node := node.setWidth 8, index := index, sub := sub, data := data }, txOk := true } ::
  delivered (responseFrame node ⟨0x60#8, index.extractLsb' 0 8, index.extractLsb' 8 8, sub, 0#8, 0#8, 0#8, 0#8⟩) ::
  (List.range (segmentCount data)).map fun j => delivered (responseFrame node (toggleBytes 1#3 j))

/-- The deliveries of a read whose server answers with `data` in segments (R242, R203, R207); it announces the size `size`
when `sized`. -/
def uploadInputs (node : BitVec 7) (index : BitVec 16) (sub : Byte) (sized : Bool) (size : BitVec 32) (data : List Byte) :
    List Delivery :=
  { ev := .cmd { cmdWord 2#3 with node := node.setWidth 8, index := index, sub := sub }, txOk := true } ::
  delivered (responseFrame node ⟨2#3 ++ 0#4 ++ BitVec.ofBool sized, index.extractLsb' 0 8, index.extractLsb' 8 8, sub,
    size.extractLsb' 0 8, size.extractLsb' 8 8, size.extractLsb' 16 8, size.extractLsb' 24 8⟩) ::
  (List.range (segmentCount data)).map fun j => delivered (responseFrame node (segmentBytes data j))

/-! ## Canonical frames -/

/-- `dlc` of the packed form (R73). -/
def packedDlc : Message → Nat
  | .nmt _ _ => 2
  | .sync => 0
  | .emcy _ _ _ _ => 8
  | .pdo _ _ data => data.length
  | .sdoRequest _ _ => 8
  | .sdoResponse _ _ => 8
  | .heartbeat _ _ => 1

/-- Bytes `a` to 7 of a payload are 0. -/
def zeroFrom (p : List Byte) (a : Nat) : Prop := ∀ i, a ≤ i → i < 8 → byteAt p i = 0#8

/-- The reserved bits and bytes of an SDO payload are 0 (R74, R75, R77, R78). -/
def sdoReservedZero (c : SdoCommand) (p : List Byte) : Prop :=
  match c with
  | .initDownloadReq _ _ _ _ _ _ => (byteAt p 0).getLsbD 4 = false
  | .initUploadReq _ _ => (byteAt p 0).extractLsb' 0 5 = 0#5 ∧ zeroFrom p 4
  | .downloadSegReq _ _ _ _ => True
  | .uploadSegReq _ => (byteAt p 0).extractLsb' 0 4 = 0#4 ∧ zeroFrom p 1
  | .abort _ _ _ => (byteAt p 0).extractLsb' 0 5 = 0#5
  | .initDownloadRsp _ _ => (byteAt p 0).extractLsb' 0 5 = 0#5 ∧ zeroFrom p 4
  | .initUploadRsp _ _ _ _ _ _ => (byteAt p 0).getLsbD 4 = false
  | .downloadSegRsp _ => (byteAt p 0).extractLsb' 0 4 = 0#4 ∧ zeroFrom p 1
  | .uploadSegRsp _ _ _ _ => True

/-- Reserved bits and bytes of a frame that decodes to `m`: only SDO payloads have any. -/
def reservedZero (m : Message) (p : List Byte) : Prop :=
  match m with
  | .nmt _ _ => True
  | .sync => True
  | .emcy _ _ _ _ => True
  | .pdo _ _ _ => True
  | .sdoRequest _ c => sdoReservedZero c p
  | .sdoResponse _ c => sdoReservedZero c p
  | .heartbeat _ _ => True

/-- R112 (b): `dlc` is the packed value, `data[dlc .. 8)` is zero, and every reserved bit and byte is 0. -/
def canonicalFrame (r : RawFrame) (m : Message) : Prop :=
  r.dlc.toNat = packedDlc m ∧ zeroFrom r.data.toList r.dlc.toNat ∧ reservedZero m r.data.toList

/-! ## The step function of the spec, whole (R222, R240 to R244) -/

/-- What a step of R190 gives. -/
structure Ref where
  x : Xfer
  tx : Option RawFrame
  resp : Option HostResponse

/-- `s[a .. b)` of R9. -/
def Ref.slice (l : List Byte) (a b : Nat) : List Byte := (l.drop a).take (b - a)

/-- `fail` of R222. -/
def Ref.fail (x : Xfer) (st : St) (k : ErrKind) : Xfer := { x with st := st, err := k }

/-- `req` of R222. -/
def Ref.req (x : Xfer) (cmd : SdoCommand) : RawFrame := (Message.sdoRequest (node8 x.node) cmd).encode

/-- `abort_out` of R222. -/
def Ref.abortOut (x : Xfer) (code : BitVec 32) (k : ErrKind) : Xfer × Option RawFrame :=
  ({ x with st := .aborted, err := k, abortCode := code }, some (Ref.req x (.abort x.index x.sub code)))

/-- `send_segment` of R205. -/
def Ref.sendSegment (y : Xfer) : Xfer × Option RawFrame :=
  let k := min 7 y.remaining.toNat
  let a := y.bufLen - y.remaining.toNat
  ({ y with remaining := BitVec.ofNat 32 (y.remaining.toNat - k) },
    some (Ref.req y (.downloadSegReq y.toggle (BitVec.ofNat 3 (7 - k)) (decide (y.remaining.toNat = k))
      (Bytes7.padded (Ref.slice y.buf a (a + k))))))

/-- `on_response` of R222. -/
def Ref.onResponse (cfg : Cfg) (x : Xfer) (cmd : SdoCommand) : Xfer × Option RawFrame :=
  match x.st, x.dir, cmd with
  | .initiating, .download, .initDownloadRsp index sub =>
    if index ≠ x.index ∨ sub ≠ x.sub then Ref.abortOut x cfg.localAbortCode .unexpectedResponse
    else if x.exp = true then ({ x with st := .done }, none)
    else Ref.sendSegment { x with st := .segmenting, toggle := false }
  | .initiating, .upload, .initUploadRsp n e sInd index sub d =>
    if index ≠ x.index ∨ sub ≠ x.sub then Ref.abortOut x cfg.localAbortCode .unexpectedResponse
    else if e = true then
      let len := expLen n sInd
      ({ x with buf := Ref.slice d.toList 0 len, bufLen := len, total := BitVec.ofNat 32 len, totalValid := true,
                remaining := 0#32, st := .done }, none)
    else
      let tot := if sInd = true then le32 d.b0 d.b1 d.b2 d.b3 else 0#32
      ({ x with total := tot, totalValid := sInd, remaining := tot, st := .segmenting, toggle := false },
        some (Ref.req x (.uploadSegReq false)))
  | .segmenting, .download, .downloadSegRsp t =>
    if t ≠ x.toggle then (Ref.fail x .error .toggleMismatch, none)
    else if x.remaining = 0#32 then ({ x with st := .done }, none)
    else Ref.sendSegment { x with toggle := !x.toggle }
  | .segmenting, .upload, .uploadSegRsp t n c d =>
    if t ≠ x.toggle then (Ref.fail x .error .toggleMismatch, none)
    else
      let k := segLen n c
      if cfg.bufMax < x.bufLen + k then Ref.abortOut x cfg.overflowAbortCode .bufferOverflow
      else
        let x2 := { x with buf := x.buf ++ Ref.slice d.toList 0 k, bufLen := x.bufLen + k,
                           remaining := BitVec.ofNat 32 (max ((x.remaining.toNat : Int) - k) 0).toNat }
        if c = true then ({ x2 with st := .done }, none)
        else ({ x2 with toggle := !x.toggle }, some (Ref.req x (.uploadSegReq (!x.toggle))))
  | _, _, _ => Ref.abortOut x cfg.localAbortCode .unexpectedResponse

/-- `on_rx` of R222. -/
def Ref.onRx (cfg : Cfg) (x : Xfer) (r : RawFrame) : Xfer × Option RawFrame :=
  match decodeMessage r with
  | .error .unknownFunctionCode => (Ref.fail x .error .classUnknownFunctionCode, none)
  | .error .malformedPayload => (Ref.fail x .error .classMalformedPayload, none)
  | .ok (.sdoResponse node cmd) =>
    if node ≠ node8 x.node then (Ref.fail x .error .unexpectedResponse, none)
    else
      match cmd with
      | .abort _ _ code => ({ x with st := .aborted, err := .remoteAbort, abortCode := code }, none)
      | cmd => Ref.onResponse cfg x cmd
  | .ok _ => (Ref.fail x .error .unexpectedResponse, none)

/-- `finish` of R222. -/
def Ref.finish (p : Xfer × Option RawFrame) (txOk : Bool) : Ref :=
  match p.2 with
  | none => ⟨p.1, none, none⟩
  | some f =>
    if txOk = true then ⟨p.1, some f, none⟩
    else ⟨{ p.1 with st := .error, err := .transportError, abortCode := 0#32 }, some f, none⟩

/-- `cmd_send` of R241. -/
def Ref.cmdSend (x : Xfer) (m : Message) (txOk : Bool) : Ref :=
  if x.st = .initiating ∨ x.st = .segmenting then ⟨x, none, some (.refused .busy)⟩
  else if m.wf = false then ⟨x, none, some (.refused .badMessage)⟩
  else ⟨x, some m.encode, some (if txOk = true then .accepted else .failedTransportError)⟩

/-- `cmd_read` of R242. -/
def Ref.cmdRead (x : Xfer) (node : BitVec 8) (index : BitVec 16) (sub : Byte) (txOk : Bool) : Ref :=
  if x.st ≠ .idle then ⟨x, none, some (.refused .notIdle)⟩
  else if node = 0#8 ∨ 127 < node.toNat then ⟨x, none, some (.refused .badNode)⟩
  else
    let x1 := { Xfer.x0 with st := .initiating, dir := .upload, node := node.setWidth 7, index := index, sub := sub }
    let f := (Message.sdoRequest node (.initUploadReq index sub)).encode
    if txOk = true then ⟨x1, some f, some .accepted⟩
    else ⟨{ x1 with st := .error, err := .transportError }, some f, some .accepted⟩

/-- `cmd_write` of R243. -/
def Ref.cmdWrite (cfg : Cfg) (x : Xfer) (node : BitVec 8) (index : BitVec 16) (sub : Byte) (data : List Byte)
    (txOk : Bool) : Ref :=
  let len := data.length
  if x.st ≠ .idle then ⟨x, none, some (.refused .notIdle)⟩
  else if node = 0#8 ∨ 127 < node.toNat then ⟨x, none, some (.refused .badNode)⟩
  else if len = 0 ∨ cfg.bufMax < len then ⟨x, none, some (.refused .badLength)⟩
  else
    let x1 := { Xfer.x0 with
      st := .initiating, dir := .download, node := node.setWidth 7, index := index, sub := sub,
      exp := decide (len ≤ 4), buf := data, bufLen := len, total := BitVec.ofNat 32 len, totalValid := true,
      remaining := if len ≤ 4 then 0#32 else BitVec.ofNat 32 len }
    let cmd : SdoCommand :=
      if len ≤ 4 then .initDownloadReq (BitVec.ofNat 2 (4 - len)) true true index sub (Bytes4.padded data)
      else .initDownloadReq 0#2 false true index sub (bytesLe32 (BitVec.ofNat 32 len))
    let f := (Message.sdoRequest node cmd).encode
    if txOk = true then ⟨x1, some f, some .accepted⟩
    else ⟨{ x1 with st := .error, err := .transportError }, some f, some .accepted⟩

/-- `cmd_ack` of R244. -/
def Ref.cmdAck (x : Xfer) : Ref :=
  if x.st = .done ∨ x.st = .aborted ∨ x.st = .timedOut ∨ x.st = .error then ⟨.x0, none, some .accepted⟩
  else ⟨x, none, some (.refused .nothingToAck)⟩

/-- `host_cmd` of R240, its opcodes by R85. -/
def Ref.hostCmd (cfg : Cfg) (x : Xfer) (c : RawCmd) (txOk : Bool) : Ref :=
  if c.op = 0#3 then ⟨x, none, some .accepted⟩
  else if c.op = 1#3 then Ref.cmdSend x c.msg txOk
  else if c.op = 2#3 then Ref.cmdRead x c.node c.index c.sub txOk
  else if c.op = 3#3 then Ref.cmdWrite cfg x c.node c.index c.sub c.data txOk
  else if c.op = 4#3 then Ref.cmdAck x
  else ⟨x, none, some (.refused .badCommand)⟩

/-- `step` of R222, for the four events of R190 (none for the events that are not R190's). -/
def Ref.step (cfg : Cfg) (x : Xfer) (ev : Event) (txOk : Bool) : Option Ref :=
  let waiting := x.st = .initiating ∨ x.st = .segmenting
  match ev with
  | .cmd c => some (Ref.hostCmd cfg x c txOk)
  | .rx r => some (if waiting then Ref.finish (Ref.onRx cfg x r) txOk else ⟨x, none, none⟩)
  | .timeout => some (if waiting then ⟨Ref.fail x .timedOut .timeout, none, none⟩ else ⟨x, none, none⟩)
  | .rxIoError => some (if waiting then ⟨Ref.fail x .error .transportError, none, none⟩ else ⟨x, none, none⟩)
  | .parse _ => none
  | .pack _ => none
  | .reset => none

end Sys2Proof.Machine
end

