-- ==== Sys2Proof/Certificates/Slice0/Obligations.lean ====
section
/-! DEFINITION. The statements for the provers. The next states are written with `State.after`, `State.afterOffer`, `State.parsed` and
`State.packed` of Sys2Proof/Safety.lean; that the output fields hold the last step's port values only (log entry 5), that a frame
form carries the port it is met at (log entry 6), and that a use of PARSE or PACK is a step of its own, which leaves `tx` and `resp`
empty (log entry 24), are the model's choices in every statement. -/

open Sys2Proof Sys2Proof.Machine

/-! ## Encodings -/

/-- R147, with the count of recognized identifiers it names. The node of NMT and SYNC is 0. -/
def Obligations.ClassifyInvertsCobId : Prop :=
  (∀ nd, classify (cobIdOf .nmt nd) = .ok (.nmt, 0#7)) ∧
  (∀ nd, classify (cobIdOf .sync nd) = .ok (.sync, 0#7)) ∧
  (∀ nd, nd ≠ 0#7 → classify (cobIdOf .emcy nd) = .ok (.emcy, nd)) ∧
  (∀ slot nd, 1 ≤ slot.num → slot.num ≤ 4 → nd ≠ 0#7 → classify (cobIdOf (.pdo slot) nd) = .ok (.pdo slot, nd)) ∧
  (∀ nd, nd ≠ 0#7 → classify (cobIdOf .sdoRsp nd) = .ok (.sdoRsp, nd)) ∧
  (∀ nd, nd ≠ 0#7 → classify (cobIdOf .sdoReq nd) = .ok (.sdoReq, nd)) ∧
  (∀ nd, nd ≠ 0#7 → classify (cobIdOf .heartbeat nd) = .ok (.heartbeat, nd)) ∧
  (∀ id k nd, classify id = .ok (k, nd) → cobIdOf k nd = id) ∧
  ((List.range 2048).filter fun n => (classify (BitVec.ofNat 11 n)).isOk).length = 1526

/-- R146: exactly these identifiers are unrecognized. -/
def Obligations.UnrecognizedIdentifiers : Prop :=
  ∀ id : BitVec 11, classify id = .error .unknownFunctionCode ↔
    ((0x001 ≤ id.toNat ∧ id.toNat ≤ 0x07F) ∨ (0x100 ≤ id.toNat ∧ id.toNat ≤ 0x17F) ∨ id = 0x180#11 ∨ id = 0x200#11 ∨
      id = 0x280#11 ∨ id = 0x300#11 ∨ id = 0x380#11 ∨ id = 0x400#11 ∨ id = 0x480#11 ∨ id = 0x500#11 ∨ id = 0x580#11 ∨
      id = 0x600#11 ∨ (0x680 ≤ id.toNat ∧ id.toNat ≤ 0x6FF) ∨ id = 0x700#11 ∨ 0x780 ≤ id.toNat)

/-- R102: packing a checked frame and parsing it back gives it, and never a length code above 8. -/
def Obligations.ParseUndoesPack : Prop :=
  ∀ f : CanFrame, f.payload.length ≤ 8 →
    parseRaw (packRaw f) = .ok f ∧ (packRaw f).dlc.toNat = f.payload.length ∧ (packRaw f).id = f.id ∧
      (packRaw f).data.toList = f.payload ++ List.replicate (8 - f.payload.length) 0#8

/-- R112: (a) decode of encode, (b) what encode gives back of a decoded frame, (c) injectivity. -/
def Obligations.MessageRoundTrip : Prop :=
  (∀ m : Message, m.wf = true → decodeMessage m.encode = .ok m) ∧
  (∀ (r : RawFrame) (m : Message), decodeMessage r = .ok m →
    m.encode.id = r.id ∧ (m.encode = r ↔ canonicalFrame r m)) ∧
  (∀ m m' : Message, m.wf = true → m'.wf = true → m.encode = m'.encode → m = m')

/-- The round trips of the SDO codec (43_sdo_command_codec.md R175, its first two sentences). -/
def Obligations.SdoCodecRoundTrip : Prop :=
  (∀ c : SdoCommand, c.isRequest = true → decodeSdoReq (encodeSdo c) = .ok c) ∧
  (∀ c : SdoCommand, c.isResponse = true → decodeSdoRsp (encodeSdo c) = .ok c) ∧
  (∀ (p : List Byte) (c : SdoCommand), p.length = 8 → decodeSdoReq p = .ok c → (encodeSdo c = p ↔ sdoReservedZero c p)) ∧
  (∀ (p : List Byte) (c : SdoCommand), p.length = 8 → decodeSdoRsp p = .ok c → (encodeSdo c = p ↔ sdoReservedZero c p))

/-- Decoding the encoding of any well-formed instruction gives it back, at every port, with every operand. The port, the rows
of the formless frames and the layout of a command word are the model's choices (log entries 6, 7, 8). -/
def Obligations.InstructionRoundTrip : Prop :=
  ∀ i : Instr, i.wf = true → ∃ ev, encode i = some ev ∧ decodeEvent ev = .instr i

/-- Every instruction the decoder gives is well-formed, and every message (R103). -/
def Obligations.DecodedIsWellFormed : Prop :=
  (∀ (ev : Event) (i : Instr), decodeEvent ev = .instr i → i.wf = true) ∧
  (∀ (r : RawFrame) (m : Message), decodeMessage r = .ok m → m.wf = true)

/-- The result of decoding never depends on the bytes at and beyond `dlc` (R104, U9). -/
def Obligations.BytesBeyondLengthUnread : Prop :=
  ∀ (id : BitVec 11) (dlc : BitVec 4) (d d' : Bytes8), d.toList.take dlc.toNat = d'.toList.take dlc.toNat →
    decodeMessage ⟨id, dlc, d⟩ = decodeMessage ⟨id, dlc, d'⟩ ∧
    decodeEvent (.rx ⟨id, dlc, d⟩) = decodeEvent (.rx ⟨id, dlc, d'⟩) ∧
    decodeEvent (.parse ⟨id, dlc, d⟩) = decodeEvent (.parse ⟨id, dlc, d'⟩)

/-- Port values written out from the encodings of the spec, one for each format. That the NMT and SDO frames decode to their
form's row and not to `NMT`, `SDO_REQ` or `SDO_RSP`, and the layout of the command word, are the model's choices (log entries
7, 8). -/
def Obligations.WrittenOutFramesDecode : Prop :=
  decodeEvent (.rx ⟨0x000#11, 2#4, ⟨0x01, 0x00, 0, 0, 0, 0, 0, 0⟩⟩) = .instr (.nmtStartRemoteNode .rx 0#7) ∧
  decodeEvent (.rx ⟨0x085#11, 8#4, ⟨0x10, 0x81, 0x11, 0, 0, 0, 0, 0⟩⟩) =
    .instr (.emcy .rx 5#7 [0x10, 0x81, 0x11, 0, 0, 0, 0, 0]) ∧
  decodeEvent (.rx ⟨0x605#11, 8#4, ⟨0x19, 0xD7, 0xD8, 0xD9, 0, 0, 0, 0⟩⟩) =
    .instr (.sdoDlSegReq .rx 5#7 true 4#3 true ⟨0xD7, 0xD8, 0xD9, 0, 0, 0, 0⟩) ∧
  decodeEvent (.rx ⟨0x585#11, 8#4, ⟨0x4F, 0x00, 0x20, 0x01, 0x2A, 0, 0, 0⟩⟩) =
    .instr (.sdoUlInitRsp .rx 5#7 3#2 true true 0x2000#16 0x01#8 ⟨0x2A, 0, 0, 0⟩) ∧
  decodeEvent (.cmd { cmdWord 2#3 with node := 5#8, index := 0x2000#16, sub := 1#8 }) = .instr (.sdoRead 5#8 0x2000#16 1#8)

/-- R174: command specifiers 5, 6 and 7 decode to nothing in either direction, and such a frame ends a waiting transfer
with `ClassMalformedPayload`, whichever node sent it. -/
def Obligations.ReservedSpecifiersAreMalformed : Prop :=
  ∀ (p : List Byte), p.length = 8 → 5 ≤ ((p.getD 0 0#8).extractLsb' 5 3).toNat →
    decodeSdoReq p = .error .malformedPayload ∧ decodeSdoRsp p = .error .malformedPayload ∧
    ∀ (s : State) (node : BitVec 7), s.x.Waits →
      exec (.sdoRsp .rx node p) s = .next (s.after { s.x with st := .error, err := .classMalformedPayload } none none) ∧
      exec (.sdoReq .rx node p) s = .next (s.after { s.x with st := .error, err := .classMalformedPayload } none none)

/-! ## The step -/

/-- An event that decodes to an instruction is taken off the deliveries and that instruction is run. The list of deliveries is
the model's choice (log entry 1). -/
def Obligations.StepRunsDecoded : Prop :=
  ∀ (s : State) (d : Delivery) (rest : List Delivery) (i : Instr),
    s.inputs = d :: rest → decodeEvent d.ev = .instr i → step s = exec i (s.took d rest)

/-- Without an event no step exists (U8); with one there is a next state, in every state that meets the invariant (R190:
every event in every state has exactly one outcome). The list of deliveries and the fault's name are the model's choice (log
entries 1, 2). -/
def Obligations.StepAnswersEveryEvent : Prop :=
  (∀ s : State, s.inputs = [] → step s = .fault .noEvent) ∧
  (∀ s : State, s.Inv → s.inputs ≠ [] → ∃ t, step s = .next t)

/-- R222: the machine's step is the step function of the spec. -/
def Obligations.StepIsTheSpecsStep : Prop :=
  ∀ (s : State) (d : Delivery) (rest : List Delivery) (r : Ref),
    s.Inv → s.inputs = d :: rest → Ref.step s.cfg s.x d.ev d.txOk = some r →
      step s = .next ((s.took d rest).after r.x r.tx r.resp)

/-- The invariant holds after reset, for every configuration within its bounds (R39, R40, R290). The configuration `State.reset`
carries is the model's choice (log entry 4). -/
def Obligations.InvariantAtReset : Prop :=
  (∀ cfg : Cfg, cfg.WF → (State.resetWith cfg).Inv ∧ (State.resetWith cfg).x.Records cfg ∧
    (State.resetWith cfg).tx = none ∧ (State.resetWith cfg).resp = none) ∧
  State.reset.Inv

/-- Every step keeps the invariant R40. -/
def Obligations.StepKeepsInvariant : Prop :=
  ∀ s t : State, s.Inv → step s = .next t → t.Inv

/-- Every step keeps the facts listed in `Xfer.Records`: of R25, R27, R28 and R29 for an upload, of R32 for `abort_code`. -/
def Obligations.StepKeepsRecords : Prop :=
  ∀ s t : State, s.Inv → s.x.Records s.cfg → step s = .next t → t.x.Records t.cfg

/-- No step writes the configuration, and a step consumes exactly one event (R190, R249, R291). The list of deliveries is the
model's choice (log entry 1). -/
def Obligations.StepConsumesOneEvent : Prop :=
  ∀ s t : State, step s = .next t → t.cfg = s.cfg ∧ ∃ d, s.inputs = d :: t.inputs

/-- While a transfer exists, no step but its end writes its node, object address, direction or `exp` (R22 to R25), and a
download's buffer and total do not change (R27, R29). -/
def Obligations.TransferIdentityKept : Prop :=
  ∀ s t : State, step s = .next t → s.x.st ≠ .idle → t.x ≠ .x0 →
    t.x.node = s.x.node ∧ t.x.index = s.x.index ∧ t.x.sub = s.x.sub ∧ t.x.dir = s.x.dir ∧ t.x.exp = s.x.exp ∧
    (s.x.dir = .download → t.x.buf = s.x.buf ∧ t.x.bufLen = s.x.bufLen ∧ t.x.total = s.x.total ∧
      t.x.totalValid = s.x.totalValid)

/-- R41: the record leaves `X0` only by an accepted `SDO_READ` or `SDO_WRITE`, returns to it only by an accepted `ACK` or by
reset, and a second transfer is refused in between. -/
def Obligations.TransferLifetime : Prop :=
  (∀ (s t : State) (d : Delivery) (rest : List Delivery), s.Inv → s.inputs = d :: rest → step s = .next t →
    (s.x = .x0 → t.x ≠ .x0 → t.resp = some .accepted ∧
      ((∃ node index sub, decodeEvent d.ev = .instr (.sdoRead node index sub)) ∨
        (∃ node index sub data, decodeEvent d.ev = .instr (.sdoWrite node index sub data)))) ∧
    (s.x ≠ .x0 → t.x = .x0 → (decodeEvent d.ev = .instr .ack ∧ t.resp = some .accepted) ∨ d.ev = .reset)) ∧
  (∀ (s : State) (node : BitVec 8) (index : BitVec 16) (sub : Byte) (data : List Byte), s.Inv → s.x ≠ .x0 →
    exec (.sdoRead node index sub) s = .next (s.after s.x none (some (.refused .notIdle))) ∧
    exec (.sdoWrite node index sub data) s = .next (s.after s.x none (some (.refused .notIdle))))

/-- R217 and R220: `DONE` is reached only by a response of the addressed node in a form the transfer awaits; no step leads
from a terminal state to a waiting one. -/
def Obligations.CompletionAndNoRetry : Prop :=
  (∀ (s t : State) (d : Delivery) (rest : List Delivery), s.inputs = d :: rest → step s = .next t → s.x.st ≠ .done →
    t.x.st = .done → t.tx = none ∧ s.x.Waits ∧
      ∃ cmd i, receivedResponse s.x.node cmd = some i ∧ decodeEvent d.ev = .instr i ∧ expectedForm s.x cmd) ∧
  (∀ s t : State, step s = .next t → s.x.terminal = true → t.x = s.x ∨ t.x = .x0)

/-- R212: the three ways a transfer ends in `ABORTED`, each with the condition of its rule (R197; R199 and R200; R208), and that
no other event of a transfer sends an abort frame. -/
def Obligations.AbortsCollected : Prop :=
  ∀ (s t : State) (d : Delivery) (rest : List Delivery), s.inputs = d :: rest → step s = .next t →
    (s.x.st ≠ .aborted → t.x.st = .aborted →
      s.x.Waits ∧ ∃ r cmd, d.ev = .rx r ∧ decodeMessage r = .ok (.sdoResponse (s.x.node.setWidth 8) cmd) ∧
        ((∃ index sub, cmd = .abort index sub t.x.abortCode ∧ t.x.err = .remoteAbort ∧ t.tx = none) ∨
         ((∀ index sub code, cmd ≠ .abort index sub code) ∧ (¬ expectedForm s.x cmd ∨ otherAddress s.x cmd) ∧
            t.x.err = .unexpectedResponse ∧
            t.x.abortCode = s.cfg.localAbortCode ∧ t.tx = some (abortFrame s.x s.cfg.localAbortCode)) ∨
         ((∃ n c b, cmd = .uploadSegRsp s.x.toggle n c b ∧
              s.cfg.bufMax < s.x.bufLen + (if c = true then 7 - n.toNat else 7)) ∧ s.x.dir = .upload ∧ s.x.st = .segmenting ∧
            t.x.err = .bufferOverflow ∧ t.x.abortCode = s.cfg.overflowAbortCode ∧
            t.tx = some (abortFrame s.x s.cfg.overflowAbortCode)))) ∧
    (∀ (r : RawFrame) (f : RawFrame) (code : BitVec 32), d.ev = .rx r → t.tx = some f → f = abortFrame s.x code →
      (t.x.st = .aborted ∧ (t.x.err = .unexpectedResponse ∨ t.x.err = .bufferOverflow)) ∨
        (d.txOk = false ∧ t.x.st = .error ∧ t.x.err = .transportError)) ∧
    ((d.ev = .timeout ∨ d.ev = .rxIoError) → t.tx = none)

/-! ## Events while nothing is awaited, and while a response is -/

/-- R192: outside a transfer `Rx`, `Timeout` and `RxIoError` leave `X` unchanged and produce no output. -/
def Obligations.EventsOutsideTransferIgnored : Prop :=
  ∀ (s : State) (d : Delivery) (rest : List Delivery), s.inputs = d :: rest → ¬ s.x.Waits →
    ((∃ r, d.ev = .rx r) ∨ d.ev = .timeout ∨ d.ev = .rxIoError) →
      step s = .next ((s.took d rest).after s.x none none)

/-- R193: a frame that fails to decode ends a waiting transfer with the sub-kind; no frame is sent. -/
def Obligations.UndecodableFrameEndsTransfer : Prop :=
  ∀ (s : State) (d : Delivery) (rest : List Delivery) (r : RawFrame), s.inputs = d :: rest → d.ev = .rx r → s.x.Waits →
    (decodeMessage r = .error .unknownFunctionCode →
      step s = .next ((s.took d rest).after { s.x with st := .error, err := .classUnknownFunctionCode } none none)) ∧
    (decodeMessage r = .error .malformedPayload →
      step s = .next ((s.took d rest).after { s.x with st := .error, err := .classMalformedPayload } none none))

/-- R194: a message that is no SDO response ends a waiting transfer with `UnexpectedResponse`; no frame is sent. -/
def Obligations.WrongKindEndsTransfer : Prop :=
  ∀ (s : State) (d : Delivery) (rest : List Delivery) (r : RawFrame) (m : Message),
    s.inputs = d :: rest → d.ev = .rx r → s.x.Waits → decodeMessage r = .ok m →
    (∀ node cmd, m ≠ .sdoResponse node cmd) →
      step s = .next ((s.took d rest).after { s.x with st := .error, err := .unexpectedResponse } none none)

/-- R195: an SDO response of another node ends a waiting transfer with `UnexpectedResponse`, an abort included. -/
def Obligations.WrongNodeEndsTransfer : Prop :=
  ∀ (s : State) (d : Delivery) (rest : List Delivery) (r : RawFrame) (node : BitVec 8) (cmd : SdoCommand),
    s.inputs = d :: rest → d.ev = .rx r → s.x.Waits → decodeMessage r = .ok (.sdoResponse node cmd) →
    node.toNat ≠ s.x.node.toNat →
      step s = .next ((s.took d rest).after { s.x with st := .error, err := .unexpectedResponse } none none)

/-- R197: an abort of the addressed node ends a waiting transfer with its code; its address is not compared. -/
def Obligations.RemoteAbortEndsTransfer : Prop :=
  ∀ (s : State) (index : BitVec 16) (sub : Byte) (code : BitVec 32), s.x.Waits →
    exec (.sdoAbortRsp .rx s.x.node index sub code) s =
      .next (s.after { s.x with st := .aborted, err := .remoteAbort, abortCode := code } none none)

/-- R199: a response of the addressed node in another form than the expected one sends the abort frame. -/
def Obligations.UninterpretableResponseAborts : Prop :=
  ∀ (s : State) (cmd : SdoCommand) (i : Instr), s.x.Waits → receivedResponse s.x.node cmd = some i →
    ¬ expectedForm s.x cmd →
      exec i s = .next (s.afterOffer
        { s.x with st := .aborted, err := .unexpectedResponse, abortCode := s.cfg.localAbortCode }
        (abortFrame s.x s.cfg.localAbortCode) none)

/-- R200: an initiate response that echoes another address is treated as uninterpretable. -/
def Obligations.WrongAddressEchoAborts : Prop :=
  ∀ (s : State) (index : BitVec 16) (sub : Byte), s.x.st = .initiating → (index ≠ s.x.index ∨ sub ≠ s.x.sub) →
    (s.x.dir = .download →
      exec (.sdoDlInitRsp .rx s.x.node index sub) s = .next (s.afterOffer
        { s.x with st := .aborted, err := .unexpectedResponse, abortCode := s.cfg.localAbortCode }
        (abortFrame s.x s.cfg.localAbortCode) none)) ∧
    (s.x.dir = .upload → ∀ (n : BitVec 2) (e sInd : Bool) (d : Bytes4),
      exec (.sdoUlInitRsp .rx s.x.node n e sInd index sub d) s = .next (s.afterOffer
        { s.x with st := .aborted, err := .unexpectedResponse, abortCode := s.cfg.localAbortCode }
        (abortFrame s.x s.cfg.localAbortCode) none))

/-- R201: the acknowledgement of an initiate download; a segmented one sends the first segment in the same step. -/
def Obligations.InitiateDownloadAcknowledged : Prop :=
  ∀ (s : State), s.x.st = .initiating → s.x.dir = .download →
    (s.x.exp = true → exec (.sdoDlInitRsp .rx s.x.node s.x.index s.x.sub) s =
      .next (s.after { s.x with st := .done } none none)) ∧
    (s.x.exp = false → s.x.bufLen = s.x.buf.length → s.x.remaining.toNat ≤ s.x.bufLen →
      exec (.sdoDlInitRsp .rx s.x.node s.x.index s.x.sub) s =
        .next (s.afterOffer (afterSegment { s.x with st := .segmenting, toggle := false })
          (segmentFrame { s.x with st := .segmenting, toggle := false }) none))

/-- R205: what `send_segment` sends and writes; the last segment, and only it, has `c` = 1 and counts unused bytes. -/
def Obligations.SegmentSent : Prop :=
  ∀ y : Xfer, y.bufLen = y.buf.length → 1 ≤ y.remaining.toNat → y.remaining.toNat ≤ y.bufLen →
    sendSegment y = .ok (afterSegment y, some (segmentFrame y)) ∧
    (afterSegment y).remaining.toNat = y.remaining.toNat - min 7 y.remaining.toNat ∧
    ((segmentFrame y).data.b0.getLsbD 0 = true ↔ (afterSegment y).remaining = 0#32) ∧
    ((segmentFrame y).data.b0.getLsbD 0 = false → (segmentFrame y).data.b0.extractLsb' 1 3 = 0#3) ∧
    (segmentFrame y).data.b0.getLsbD 4 = y.toggle

/-- R206: the acknowledgement of a segment with the right toggle. -/
def Obligations.DownloadSegmentAcknowledged : Prop :=
  ∀ (s : State), s.x.st = .segmenting → s.x.dir = .download →
    (s.x.remaining = 0#32 → exec (.sdoDlSegRsp .rx s.x.node s.x.toggle) s =
      .next (s.after { s.x with st := .done } none none)) ∧
    (s.x.remaining ≠ 0#32 → s.x.bufLen = s.x.buf.length → s.x.remaining.toNat ≤ s.x.bufLen →
      exec (.sdoDlSegRsp .rx s.x.node s.x.toggle) s =
        .next (s.afterOffer (afterSegment { s.x with toggle := !s.x.toggle })
          (segmentFrame { s.x with toggle := !s.x.toggle }) none))

/-- R202: an expedited upload response. -/
def Obligations.ExpeditedUploadCompletes : Prop :=
  ∀ (s : State) (n : BitVec 2) (sInd : Bool) (d : Bytes4), s.x.st = .initiating → s.x.dir = .upload →
    exec (.sdoUlInitRsp .rx s.x.node n true sInd s.x.index s.x.sub d) s =
      .next (s.after { s.x with
        buf := ([d.b0, d.b1, d.b2, d.b3] : List Byte).take (if sInd = true then 4 - n.toNat else 4)
        bufLen := if sInd = true then 4 - n.toNat else 4
        total := BitVec.ofNat 32 (if sInd = true then 4 - n.toNat else 4)
        totalValid := true
        remaining := 0#32
        st := .done } none none)

/-- R203: a segmented upload response; the first segment request is offered. -/
def Obligations.SegmentedUploadStarts : Prop :=
  ∀ (s : State) (n : BitVec 2) (sInd : Bool) (d : Bytes4), s.x.st = .initiating → s.x.dir = .upload →
    exec (.sdoUlInitRsp .rx s.x.node n false sInd s.x.index s.x.sub d) s =
      .next (s.afterOffer { s.x with
        total := if sInd = true then d.b3 ++ d.b2 ++ d.b1 ++ d.b0 else 0#32
        totalValid := sInd
        remaining := if sInd = true then d.b3 ++ d.b2 ++ d.b1 ++ d.b0 else 0#32
        st := .segmenting
        toggle := false } (requestFrame s.x.node ⟨0x60#8, 0#8, 0#8, 0#8, 0#8, 0#8, 0#8, 0#8⟩) none)

/-- R207 and R209: an upload segment with the right toggle that fits. -/
def Obligations.UploadSegmentAppended : Prop :=
  ∀ (s : State) (n : BitVec 3) (c : Bool) (d : Bytes7) (k : Nat), s.x.st = .segmenting → s.x.dir = .upload →
    k = (if c = true then 7 - n.toNat else 7) → s.x.bufLen + k ≤ s.cfg.bufMax →
    (c = true → exec (.sdoUlSegRsp .rx s.x.node s.x.toggle n c d) s =
      .next (s.after { s.x with
        buf := s.x.buf ++ ([d.b0, d.b1, d.b2, d.b3, d.b4, d.b5, d.b6] : List Byte).take k
        bufLen := s.x.bufLen + k
        remaining := BitVec.ofNat 32 (s.x.remaining.toNat - k)
        st := .done } none none)) ∧
    (c = false → exec (.sdoUlSegRsp .rx s.x.node s.x.toggle n c d) s =
      .next (s.afterOffer { s.x with
        buf := s.x.buf ++ ([d.b0, d.b1, d.b2, d.b3, d.b4, d.b5, d.b6] : List Byte).take k
        bufLen := s.x.bufLen + k
        remaining := BitVec.ofNat 32 (s.x.remaining.toNat - k)
        toggle := !s.x.toggle }
        (requestFrame s.x.node ⟨3#3 ++ BitVec.ofBool (!s.x.toggle) ++ 0#4, 0#8, 0#8, 0#8, 0#8, 0#8, 0#8, 0#8⟩) none))

/-- R208: an upload segment with the right toggle that does not fit. -/
def Obligations.UploadOverflowAborts : Prop :=
  ∀ (s : State) (n : BitVec 3) (c : Bool) (d : Bytes7), s.x.st = .segmenting → s.x.dir = .upload →
    s.cfg.bufMax < s.x.bufLen + (if c = true then 7 - n.toNat else 7) →
      exec (.sdoUlSegRsp .rx s.x.node s.x.toggle n c d) s = .next (s.afterOffer
        { s.x with st := .aborted, err := .bufferOverflow, abortCode := s.cfg.overflowAbortCode }
        (abortFrame s.x s.cfg.overflowAbortCode) none)

/-- R210: a segment response of the expected form with the wrong toggle. -/
def Obligations.ToggleMismatchEndsTransfer : Prop :=
  ∀ (s : State), s.x.st = .segmenting →
    (s.x.dir = .download → exec (.sdoDlSegRsp .rx s.x.node (!s.x.toggle)) s =
      .next (s.after { s.x with st := .error, err := .toggleMismatch } none none)) ∧
    (s.x.dir = .upload → ∀ (n : BitVec 3) (c : Bool) (d : Bytes7),
      exec (.sdoUlSegRsp .rx s.x.node (!s.x.toggle) n c d) s =
        .next (s.after { s.x with st := .error, err := .toggleMismatch } none none))

/-- R214 and R215: the two events that end a waiting transfer without a frame. -/
def Obligations.TimeoutAndReceiveFailure : Prop :=
  ∀ (s : State) (d : Delivery) (rest : List Delivery), s.inputs = d :: rest → s.x.Waits →
    (d.ev = .timeout →
      step s = .next ((s.took d rest).after { s.x with st := .timedOut, err := .timeout } none none)) ∧
    (d.ev = .rxIoError →
      step s = .next ((s.took d rest).after { s.x with st := .error, err := .transportError } none none))

/-- R216: the verdict on an offered frame. A step that offers none does not depend on it; one that offers a frame ends, when
the bus does not take it, in `ERROR`, `TransportError`, `abort_code` 0, everything else as it would have been; `SEND` never
changes `X`; a step that reaches `DONE` offers no frame. -/
def Obligations.TransmitFailure : Prop :=
  ∀ (s t : State) (d : Delivery) (rest : List Delivery), s.inputs = { d with txOk := true } :: rest → step s = .next t →
    (t.tx = none → step { s with inputs := { d with txOk := false } :: rest } = .next { t with txOk := false }) ∧
    (∀ f, t.tx = some f → (∀ m, decodeEvent d.ev ≠ .instr (.send m)) →
      step { s with inputs := { d with txOk := false } :: rest } = .next { t with
        txOk := false, x := { t.x with st := .error, err := .transportError, abortCode := 0#32 } }) ∧
    (∀ m, decodeEvent d.ev = .instr (.send m) → t.x = s.x ∧
      ∃ t', step { s with inputs := { d with txOk := false } :: rest } = .next t' ∧ t'.x = s.x) ∧
    (s.x.st ≠ .done → t.x.st = .done → t.tx = none)

/-! ## Frame forms on the codec ports -/

/-- A frame form on `PARSE` or `PACK` touches neither `X` nor the bus, whatever the record (R100, R113); an ill-formed message
on `PACK` is refused and changes nothing (U21; the answer `refused` is the model's choice, log entry 12).
That each use of these ports is a delivered event and a step of its own is the model's choice (log entry 24). -/
def Obligations.CodecPortsTouchNothing : Prop :=
  (∀ (s : State) (d : Delivery) (rest : List Delivery), s.inputs = d :: rest →
    ((∃ r, d.ev = .parse r) ∨ (∃ m, d.ev = .pack m)) →
      ∃ t, step s = .next t ∧ t.x = s.x ∧ t.cfg = s.cfg ∧ t.inputs = rest ∧ t.tx = none ∧ t.resp = none) ∧
  (∀ (s : State) (d : Delivery) (rest : List Delivery) (m : Message), s.inputs = d :: rest → d.ev = .pack m →
    step s = .next ((s.took d rest).packed (if m.wf = true then .frame m.encode else .refused))) ∧
  (∀ (s : State) (d : Delivery) (rest : List Delivery) (r : RawFrame), s.inputs = d :: rest → d.ev = .parse r →
    step s = .next ((s.took d rest).parsed
      (match decodeMessage r with | .ok m => .ok m | .error e => .err e)))

/-- R106: any payload parses to `Sync`; `Sync` packs to `080#`. -/
def Obligations.SyncForms : Prop :=
  ∀ (s : State) (p : List Byte),
    exec (.sync .parse p) s = .next (s.parsed (.ok .sync)) ∧
    exec (.sync .pack p) s = .next (s.packed (.frame ⟨0x080#11, 0#4, ⟨0, 0, 0, 0, 0, 0, 0, 0⟩⟩))

/-- R107: the EMCY payload, both ways; shorter than eight bytes it is malformed. -/
def Obligations.EmcyForms : Prop :=
  ∀ (s : State) (node : BitVec 7) (b : Bytes8), node ≠ 0#7 →
    exec (.emcy .parse node b.toList) s =
      .next (s.parsed (.ok (.emcy (node.setWidth 8) (b.b1 ++ b.b0) b.b2 ⟨b.b3, b.b4, b.b5, b.b6, b.b7⟩))) ∧
    exec (.emcy .pack node b.toList) s = .next (s.packed (.frame ⟨0x080#11 ||| node.setWidth 11, 8#4, b⟩)) ∧
    ∀ p : List Byte, p.length < 8 → exec (.emcy .parse node p) s = .next (s.parsed (.err .malformedPayload))

/-- R108 with the identifiers of R135 to R142: a PDO's payload is its data, both ways, in all eight rows. -/
def Obligations.PdoForms : Prop :=
  ∀ (s : State) (k : Fin 4) (dir : PdoDir) (node : BitVec 7) (p : List Byte), node ≠ 0#7 → p.length ≤ 8 →
    exec (pdoRow k dir .parse node p) s = .next (s.parsed (.ok (.pdo (node.setWidth 8) ⟨k.val + 1, dir⟩ p))) ∧
    exec (pdoRow k dir .pack node p) s = .next (s.packed (.frame
      ⟨BitVec.ofNat 11 (0x180 + 0x100 * k.val + (if dir = .rx then 0x80 else 0)) ||| node.setWidth 11,
        BitVec.ofNat 4 p.length, ⟨p.getD 0 0#8, p.getD 1 0#8, p.getD 2 0#8, p.getD 3 0#8, p.getD 4 0#8, p.getD 5 0#8,
          p.getD 6 0#8, p.getD 7 0#8⟩⟩))

/-- R109: the heartbeat payload, both ways; bytes 1 to 7 are ignored, an empty payload is malformed. -/
def Obligations.HeartbeatForms : Prop :=
  ∀ (s : State) (node : BitVec 7) (b : Byte) (p : List Byte), node ≠ 0#7 →
    exec (.heartbeat .parse node (b :: p)) s = .next (s.parsed (.ok (.heartbeat (node.setWidth 8) b))) ∧
    exec (.heartbeat .parse node []) s = .next (s.parsed (.err .malformedPayload)) ∧
    exec (.heartbeat .pack node [b]) s =
      .next (s.packed (.frame ⟨0x700#11 ||| node.setWidth 11, 1#4, ⟨b, 0, 0, 0, 0, 0, 0, 0⟩⟩))

/-- R156: `decode_nmt`, every case of byte 0, byte 1 and the length. -/
def Obligations.NmtPayloadParsed : Prop :=
  ∀ (s : State) (b0 b1 : Byte) (p : List Byte),
    exec (.nmt .parse (b0 :: b1 :: p)) s = .next (s.parsed (
      if 127 < b1.toNat then .err .malformedPayload
      else if b0 = 0x01#8 then .ok (.nmt .startRemoteNode b1)
      else if b0 = 0x02#8 then .ok (.nmt .stopRemoteNode b1)
      else if b0 = 0x80#8 then .ok (.nmt .enterPreOperational b1)
      else if b0 = 0x81#8 then .ok (.nmt .resetNode b1)
      else if b0 = 0x82#8 then .ok (.nmt .resetCommunication b1)
      else .err .malformedPayload)) ∧
    exec (.nmt .parse [b0]) s = .next (s.parsed (.err .malformedPayload)) ∧
    exec (.nmt .parse []) s = .next (s.parsed (.err .malformedPayload))

/-- R150 to R155: the NMT Encoder's frames, and the same five rows parsed. -/
def Obligations.NmtFramesBuilt : Prop :=
  ∀ (s : State) (target : BitVec 7),
    exec (.nmtStartRemoteNode .pack target) s =
      .next (s.packed (.frame ⟨0#11, 2#4, ⟨0x01#8, target.setWidth 8, 0, 0, 0, 0, 0, 0⟩⟩)) ∧
    exec (.nmtStopRemoteNode .pack target) s =
      .next (s.packed (.frame ⟨0#11, 2#4, ⟨0x02#8, target.setWidth 8, 0, 0, 0, 0, 0, 0⟩⟩)) ∧
    exec (.nmtEnterPreOperational .pack target) s =
      .next (s.packed (.frame ⟨0#11, 2#4, ⟨0x80#8, target.setWidth 8, 0, 0, 0, 0, 0, 0⟩⟩)) ∧
    exec (.nmtResetNode .pack target) s =
      .next (s.packed (.frame ⟨0#11, 2#4, ⟨0x81#8, target.setWidth 8, 0, 0, 0, 0, 0, 0⟩⟩)) ∧
    exec (.nmtResetCommunication .pack target) s =
      .next (s.packed (.frame ⟨0#11, 2#4, ⟨0x82#8, target.setWidth 8, 0, 0, 0, 0, 0, 0⟩⟩)) ∧
    exec (.nmtStartRemoteNode .parse target) s = .next (s.parsed (.ok (.nmt .startRemoteNode (target.setWidth 8)))) ∧
    exec (.nmtStopRemoteNode .parse target) s = .next (s.parsed (.ok (.nmt .stopRemoteNode (target.setWidth 8)))) ∧
    exec (.nmtEnterPreOperational .parse target) s =
      .next (s.parsed (.ok (.nmt .enterPreOperational (target.setWidth 8)))) ∧
    exec (.nmtResetNode .parse target) s = .next (s.parsed (.ok (.nmt .resetNode (target.setWidth 8)))) ∧
    exec (.nmtResetCommunication .parse target) s =
      .next (s.parsed (.ok (.nmt .resetCommunication (target.setWidth 8))))

/-- R171: `decode_sdo_req` on eight bytes, by the specifier; shorter payloads are malformed. -/
def Obligations.SdoRequestParsed : Prop :=
  ∀ (s : State) (node : BitVec 7) (b : Bytes8),
    exec (.sdoReq .parse node b.toList) s = .next (s.parsed (
      if b.b0.extractLsb' 5 3 = 0#3 then .ok (.sdoRequest (node.setWidth 8) (.downloadSegReq (b.b0.getLsbD 4)
        (b.b0.extractLsb' 1 3) (b.b0.getLsbD 0) ⟨b.b1, b.b2, b.b3, b.b4, b.b5, b.b6, b.b7⟩))
      else if b.b0.extractLsb' 5 3 = 1#3 then .ok (.sdoRequest (node.setWidth 8) (.initDownloadReq (b.b0.extractLsb' 2 2)
        (b.b0.getLsbD 1) (b.b0.getLsbD 0) (b.b2 ++ b.b1) b.b3 ⟨b.b4, b.b5, b.b6, b.b7⟩))
      else if b.b0.extractLsb' 5 3 = 2#3 then .ok (.sdoRequest (node.setWidth 8) (.initUploadReq (b.b2 ++ b.b1) b.b3))
      else if b.b0.extractLsb' 5 3 = 3#3 then .ok (.sdoRequest (node.setWidth 8) (.uploadSegReq (b.b0.getLsbD 4)))
      else if b.b0.extractLsb' 5 3 = 4#3 then .ok (.sdoRequest (node.setWidth 8) (.abort (b.b2 ++ b.b1) b.b3
        (b.b7 ++ b.b6 ++ b.b5 ++ b.b4)))
      else .err .malformedPayload)) ∧
    ∀ p : List Byte, p.length < 8 → exec (.sdoReq .parse node p) s = .next (s.parsed (.err .malformedPayload))

/-- R172: `decode_sdo_rsp` on eight bytes, by the specifier; shorter payloads are malformed. -/
def Obligations.SdoResponseParsed : Prop :=
  ∀ (s : State) (node : BitVec 7) (b : Bytes8),
    exec (.sdoRsp .parse node b.toList) s = .next (s.parsed (
      if b.b0.extractLsb' 5 3 = 0#3 then .ok (.sdoResponse (node.setWidth 8) (.uploadSegRsp (b.b0.getLsbD 4)
        (b.b0.extractLsb' 1 3) (b.b0.getLsbD 0) ⟨b.b1, b.b2, b.b3, b.b4, b.b5, b.b6, b.b7⟩))
      else if b.b0.extractLsb' 5 3 = 1#3 then .ok (.sdoResponse (node.setWidth 8) (.downloadSegRsp (b.b0.getLsbD 4)))
      else if b.b0.extractLsb' 5 3 = 2#3 then .ok (.sdoResponse (node.setWidth 8) (.initUploadRsp (b.b0.extractLsb' 2 2)
        (b.b0.getLsbD 1) (b.b0.getLsbD 0) (b.b2 ++ b.b1) b.b3 ⟨b.b4, b.b5, b.b6, b.b7⟩))
      else if b.b0.extractLsb' 5 3 = 3#3 then .ok (.sdoResponse (node.setWidth 8) (.initDownloadRsp (b.b2 ++ b.b1) b.b3))
      else if b.b0.extractLsb' 5 3 = 4#3 then .ok (.sdoResponse (node.setWidth 8) (.abort (b.b2 ++ b.b1) b.b3
        (b.b7 ++ b.b6 ++ b.b5 ++ b.b4)))
      else .err .malformedPayload)) ∧
    ∀ p : List Byte, p.length < 8 → exec (.sdoRsp .parse node p) s = .next (s.parsed (.err .malformedPayload))

/-- R161 to R165: the frames of the five request forms, byte by byte. -/
def Obligations.SdoRequestFramesPacked : Prop :=
  ∀ (s : State) (node : BitVec 7) (index : BitVec 16) (sub : Byte), node ≠ 0#7 →
    (∀ (n : BitVec 2) (e sInd : Bool) (d : Bytes4), exec (.sdoDlInitReq .pack node n e sInd index sub d) s =
      .next (s.packed (.frame (requestFrame node ⟨1#3 ++ 0#1 ++ n ++ BitVec.ofBool e ++ BitVec.ofBool sInd,
        index.extractLsb' 0 8, index.extractLsb' 8 8, sub, d.b0, d.b1, d.b2, d.b3⟩)))) ∧
    exec (.sdoUlInitReq .pack node index sub) s =
      .next (s.packed (.frame (requestFrame node
        ⟨0x40#8, index.extractLsb' 0 8, index.extractLsb' 8 8, sub, 0, 0, 0, 0⟩))) ∧
    (∀ (t : Bool) (n : BitVec 3) (c : Bool) (d : Bytes7), exec (.sdoDlSegReq .pack node t n c d) s =
      .next (s.packed (.frame (requestFrame node ⟨0#3 ++ BitVec.ofBool t ++ n ++ BitVec.ofBool c,
        d.b0, d.b1, d.b2, d.b3, d.b4, d.b5, d.b6⟩)))) ∧
    (∀ t : Bool, exec (.sdoUlSegReq .pack node t) s =
      .next (s.packed (.frame (requestFrame node ⟨3#3 ++ BitVec.ofBool t ++ 0#4, 0, 0, 0, 0, 0, 0, 0⟩)))) ∧
    (∀ code : BitVec 32, exec (.sdoAbortReq .pack node index sub code) s =
      .next (s.packed (.frame (requestFrame node ⟨0x80#8, index.extractLsb' 0 8, index.extractLsb' 8 8, sub,
        code.extractLsb' 0 8, code.extractLsb' 8 8, code.extractLsb' 16 8, code.extractLsb' 24 8⟩))))

/-- R166 to R170: the frames of the five response forms, byte by byte. -/
def Obligations.SdoResponseFramesPacked : Prop :=
  ∀ (s : State) (node : BitVec 7) (index : BitVec 16) (sub : Byte), node ≠ 0#7 →
    exec (.sdoDlInitRsp .pack node index sub) s =
      .next (s.packed (.frame (responseFrame node
        ⟨0x60#8, index.extractLsb' 0 8, index.extractLsb' 8 8, sub, 0, 0, 0, 0⟩))) ∧
    (∀ (n : BitVec 2) (e sInd : Bool) (d : Bytes4), exec (.sdoUlInitRsp .pack node n e sInd index sub d) s =
      .next (s.packed (.frame (responseFrame node ⟨2#3 ++ 0#1 ++ n ++ BitVec.ofBool e ++ BitVec.ofBool sInd,
        index.extractLsb' 0 8, index.extractLsb' 8 8, sub, d.b0, d.b1, d.b2, d.b3⟩)))) ∧
    (∀ t : Bool, exec (.sdoDlSegRsp .pack node t) s =
      .next (s.packed (.frame (responseFrame node ⟨1#3 ++ BitVec.ofBool t ++ 0#4, 0, 0, 0, 0, 0, 0, 0⟩)))) ∧
    (∀ (t : Bool) (n : BitVec 3) (c : Bool) (d : Bytes7), exec (.sdoUlSegRsp .pack node t n c d) s =
      .next (s.packed (.frame (responseFrame node ⟨0#3 ++ BitVec.ofBool t ++ n ++ BitVec.ofBool c,
        d.b0, d.b1, d.b2, d.b3, d.b4, d.b5, d.b6⟩)))) ∧
    (∀ code : BitVec 32, exec (.sdoAbortRsp .pack node index sub code) s =
      .next (s.packed (.frame (responseFrame node ⟨0x80#8, index.extractLsb' 0 8, index.extractLsb' 8 8, sub,
        code.extractLsb' 0 8, code.extractLsb' 8 8, code.extractLsb' 16 8, code.extractLsb' 24 8⟩))))

/-- The ten SDO forms on `PARSE` give the typed message they are (R104). -/
def Obligations.SdoFormsParsed : Prop :=
  ∀ (s : State) (node : BitVec 7) (index : BitVec 16) (sub : Byte) (t c e sInd : Bool) (n2 : BitVec 2) (n3 : BitVec 3)
    (d4 : Bytes4) (d7 : Bytes7) (code : BitVec 32),
    exec (.sdoDlInitReq .parse node n2 e sInd index sub d4) s =
      .next (s.parsed (.ok (.sdoRequest (node.setWidth 8) (.initDownloadReq n2 e sInd index sub d4)))) ∧
    exec (.sdoUlInitReq .parse node index sub) s =
      .next (s.parsed (.ok (.sdoRequest (node.setWidth 8) (.initUploadReq index sub)))) ∧
    exec (.sdoDlSegReq .parse node t n3 c d7) s =
      .next (s.parsed (.ok (.sdoRequest (node.setWidth 8) (.downloadSegReq t n3 c d7)))) ∧
    exec (.sdoUlSegReq .parse node t) s = .next (s.parsed (.ok (.sdoRequest (node.setWidth 8) (.uploadSegReq t)))) ∧
    exec (.sdoAbortReq .parse node index sub code) s =
      .next (s.parsed (.ok (.sdoRequest (node.setWidth 8) (.abort index sub code)))) ∧
    exec (.sdoDlInitRsp .parse node index sub) s =
      .next (s.parsed (.ok (.sdoResponse (node.setWidth 8) (.initDownloadRsp index sub)))) ∧
    exec (.sdoUlInitRsp .parse node n2 e sInd index sub d4) s =
      .next (s.parsed (.ok (.sdoResponse (node.setWidth 8) (.initUploadRsp n2 e sInd index sub d4)))) ∧
    exec (.sdoDlSegRsp .parse node t) s = .next (s.parsed (.ok (.sdoResponse (node.setWidth 8) (.downloadSegRsp t)))) ∧
    exec (.sdoUlSegRsp .parse node t n3 c d7) s =
      .next (s.parsed (.ok (.sdoResponse (node.setWidth 8) (.uploadSegRsp t n3 c d7)))) ∧
    exec (.sdoAbortRsp .parse node index sub code) s =
      .next (s.parsed (.ok (.sdoResponse (node.setWidth 8) (.abort index sub code))))

/-! ## Host commands -/

/-- R241: `SEND`, its four outcomes. -/
def Obligations.SendOutcomes : Prop :=
  ∀ (s : State) (m : Message),
    (s.x.Waits → exec (.send m) s = .next (s.after s.x none (some (.refused .busy)))) ∧
    (¬ s.x.Waits → m.wf = false → exec (.send m) s = .next (s.after s.x none (some (.refused .badMessage)))) ∧
    (¬ s.x.Waits → m.wf = true → s.txOk = true →
      exec (.send m) s = .next (s.after s.x (some m.encode) (some .accepted))) ∧
    (¬ s.x.Waits → m.wf = true → s.txOk = false →
      exec (.send m) s = .next (s.after s.x (some m.encode) (some .failedTransportError)))

/-- R242: `SDO_READ`, its refusals and the transfer it creates. -/
def Obligations.ReadOutcomes : Prop :=
  ∀ (s : State) (node : BitVec 8) (index : BitVec 16) (sub : Byte),
    (s.x.st ≠ .idle → exec (.sdoRead node index sub) s = .next (s.after s.x none (some (.refused .notIdle)))) ∧
    (s.x.st = .idle → (node.toNat = 0 ∨ 127 < node.toNat) →
      exec (.sdoRead node index sub) s = .next (s.after s.x none (some (.refused .badNode)))) ∧
    (s.x.st = .idle → 1 ≤ node.toNat → node.toNat ≤ 127 →
      exec (.sdoRead node index sub) s = .next (s.afterOffer
        { Xfer.x0 with st := .initiating, dir := .upload, node := node.setWidth 7, index := index, sub := sub }
        (requestFrame (node.setWidth 7) ⟨0x40#8, index.extractLsb' 0 8, index.extractLsb' 8 8, sub, 0, 0, 0, 0⟩)
        (some .accepted)))

/-- R243: `SDO_WRITE`, its refusals, and the expedited and the segmented transfer it creates. -/
def Obligations.WriteOutcomes : Prop :=
  ∀ (s : State) (node : BitVec 8) (index : BitVec 16) (sub : Byte) (data : List Byte),
    (s.x.st ≠ .idle → exec (.sdoWrite node index sub data) s = .next (s.after s.x none (some (.refused .notIdle)))) ∧
    (s.x.st = .idle → (node.toNat = 0 ∨ 127 < node.toNat) →
      exec (.sdoWrite node index sub data) s = .next (s.after s.x none (some (.refused .badNode)))) ∧
    (s.x.st = .idle → 1 ≤ node.toNat → node.toNat ≤ 127 → (data.length = 0 ∨ s.cfg.bufMax < data.length) →
      exec (.sdoWrite node index sub data) s = .next (s.after s.x none (some (.refused .badLength)))) ∧
    (s.x.st = .idle → 1 ≤ node.toNat → node.toNat ≤ 127 → 1 ≤ data.length → data.length ≤ 4 →
      data.length ≤ s.cfg.bufMax →
      exec (.sdoWrite node index sub data) s = .next (s.afterOffer
        { Xfer.x0 with st := .initiating, dir := .download, node := node.setWidth 7, index := index, sub := sub, exp := true,
                       buf := data, bufLen := data.length, total := BitVec.ofNat 32 data.length, totalValid := true }
        (requestFrame (node.setWidth 7) ⟨1#3 ++ 0#1 ++ BitVec.ofNat 2 (4 - data.length) ++ 3#2,
          index.extractLsb' 0 8, index.extractLsb' 8 8, sub, data.getD 0 0#8, data.getD 1 0#8, data.getD 2 0#8,
          data.getD 3 0#8⟩)
        (some .accepted))) ∧
    (s.x.st = .idle → 1 ≤ node.toNat → node.toNat ≤ 127 → 5 ≤ data.length → data.length ≤ s.cfg.bufMax →
      exec (.sdoWrite node index sub data) s = .next (s.afterOffer
        { Xfer.x0 with st := .initiating, dir := .download, node := node.setWidth 7, index := index, sub := sub, exp := false,
                       buf := data, bufLen := data.length, total := BitVec.ofNat 32 data.length, totalValid := true,
                       remaining := BitVec.ofNat 32 data.length }
        (requestFrame (node.setWidth 7) ⟨0x21#8, index.extractLsb' 0 8, index.extractLsb' 8 8, sub,
          BitVec.ofNat 8 data.length, BitVec.ofNat 8 (data.length / 2 ^ 8), BitVec.ofNat 8 (data.length / 2 ^ 16),
          BitVec.ofNat 8 (data.length / 2 ^ 24)⟩)
        (some .accepted)))

/-- R244: `ACK` restores the reset values in a terminal state and is refused elsewhere. -/
def Obligations.AckOutcomes : Prop :=
  ∀ s : State,
    ((s.x.st = .done ∨ s.x.st = .aborted ∨ s.x.st = .timedOut ∨ s.x.st = .error) →
      exec .ack s = .next (s.after .x0 none (some .accepted))) ∧
    ((s.x.st = .idle ∨ s.x.st = .initiating ∨ s.x.st = .segmenting) →
      exec .ack s = .next (s.after s.x none (some (.refused .nothingToAck))))

/-- R246: a command is refused for the first failing test of the fixed order, changes nothing and offers nothing, whatever the
bus's verdict; a command no test refuses is not refused. -/
def Obligations.RefusalsInOrder : Prop :=
  ∀ (s : State) (d : Delivery) (rest : List Delivery) (c : RawCmd), s.inputs = d :: rest → d.ev = .cmd c →
    (∀ reason, refusalOf s.cfg s.x c = some reason →
      step s = .next ((s.took d rest).after s.x none (some (.refused reason)))) ∧
    (refusalOf s.cfg s.x c = none → ∃ t, step s = .next t ∧ (t.resp = some .accepted ∨ t.resp = some .failedTransportError))

/-- R245 and R295: `NOP` is accepted in every state and writes nothing; while a response is awaited it is the only command
accepted. -/
def Obligations.NopAloneWhileWaiting : Prop :=
  (∀ s : State, exec .nop s = .next (s.after s.x none (some .accepted))) ∧
  ∀ s : State, s.x.Waits →
    (∀ m, ∃ reason, exec (.send m) s = .next (s.after s.x none (some (.refused reason)))) ∧
    (∀ node index sub, ∃ reason, exec (.sdoRead node index sub) s = .next (s.after s.x none (some (.refused reason)))) ∧
    (∀ node index sub data, ∃ reason,
      exec (.sdoWrite node index sub data) s = .next (s.after s.x none (some (.refused reason)))) ∧
    ∃ reason, exec .ack s = .next (s.after s.x none (some (.refused reason)))

/-! ## Reset and the host's view -/

/-- R291, with `X0` written out from R39: reset in any state discards the transfer, sends nothing and keeps `cfg`. That reset is
delivered as an event, whose step leaves the port values empty, is the model's inference (log entry 10). -/
def Obligations.ResetDiscardsTransfer : Prop :=
  ∀ (s : State) (d : Delivery) (rest : List Delivery), s.inputs = d :: rest → d.ev = .reset →
    step s = .next ((s.took d rest).after
      { st := .idle, dir := .upload, node := 0#7, index := 0#16, sub := 0#8, exp := false, toggle := false, total := 0#32,
        totalValid := false, remaining := 0#32, buf := [], bufLen := 0, err := .none, abortCode := 0#32 } none none)

/-- R30: the result of a transfer; outside `DONE` of an upload it tells nothing of the buffer. R33: the registers of the status
port, in the order of R20, all but the buffer; that a number above 13 reads nothing is the model's choice (log entry 21). The codes
of R21, R22 and R31, which decode back, and U26: 7 stands for no state and 9 for no error kind, nor does any number above. -/
def Obligations.ResultVisibility : Prop :=
  (∀ x : Xfer, x.bufLen = x.buf.length →
    (x.st = .done → x.dir = .upload → hostResult x = .bytes x.buf) ∧
    (x.st = .done → x.dir = .download → hostResult x = .unit) ∧
    ((x.st = .aborted ∨ x.st = .timedOut ∨ x.st = .error) → hostResult x = .failure x.err x.abortCode) ∧
    ((x.st = .idle ∨ x.st = .initiating ∨ x.st = .segmenting) → hostResult x = .noResult)) ∧
  (∀ x : Xfer,
    [0, 1, 2, 3, 4, 5, 6].map (statusReg x) =
      [some x.st.code, some x.dir.code, some x.node.toNat, some x.index.toNat, some x.sub.toNat, some x.exp.toNat,
        some x.toggle.toNat] ∧
    [7, 8, 9, 10, 11, 12, 13].map (statusReg x) =
      [some x.total.toNat, some x.totalValid.toNat, some x.remaining.toNat, none, some x.bufLen, some x.err.code,
        some x.abortCode.toNat] ∧
    ∀ k, 13 < k → statusReg x k = none) ∧
  ([St.idle, .initiating, .segmenting, .done, .aborted, .timedOut, .error].map St.code = [0, 1, 2, 3, 4, 5, 6] ∧
    (∀ v : St, St.ofCode v.code = some v) ∧ ∀ n, 7 ≤ n → St.ofCode n = none) ∧
  (Dir.upload.code = 0 ∧ Dir.download.code = 1) ∧
  ([ErrKind.none, .timeout, .remoteAbort, .toggleMismatch, .unexpectedResponse, .classUnknownFunctionCode,
      .classMalformedPayload, .transportError, .bufferOverflow].map ErrKind.code = [0, 1, 2, 3, 4, 5, 6, 7, 8] ∧
    (∀ v : ErrKind, ErrKind.ofCode v.code = some v) ∧ ∀ n, 9 ≤ n → ErrKind.ofCode n = none)

/-! ## Whole transfers -/

/-- R219, R211, R54: a segmented write whose server acknowledges every frame sends exactly `ceil(L/7)` segments, segment `j`
with toggle `j mod 2` and the bytes `data[7*j .. min(7*j+7, L))`, and ends in `DONE`. The server is an assumption about the remote
node, which is outside the block (log entry 17). -/
def Obligations.SegmentedWriteDelivers : Prop :=
  ∀ (s : State) (node : BitVec 7) (index : BitVec 16) (sub : Byte) (data : List Byte) (rest : List Delivery),
    s.cfg.WF → s.x = .x0 → node ≠ 0#7 → 5 ≤ data.length → data.length ≤ s.cfg.bufMax →
    s.inputs = downloadInputs node index sub data ++ rest →
    (∀ j, j < segmentCount data → ∃ t, core.run (2 + j) s = .next t ∧ t.x.st = .segmenting ∧
      t.tx = some (requestFrame node (segmentBytes data j))) ∧
    ∃ t, core.run (2 + segmentCount data) s = .next t ∧ t.x.st = .done ∧ t.x.err = .none ∧ t.tx = none ∧
      hostResult t.x = .unit ∧ t.inputs = rest

/-- R221 (b), R211: a read whose server answers in segments, with any announced size, asks for each segment with toggle
`j mod 2` and ends in `DONE` with exactly the server's bytes; an empty datum comes in one segment (S23). The server is an
assumption about the remote node, which is outside the block (log entry 17). -/
def Obligations.SegmentedReadCollects : Prop :=
  ∀ (s : State) (node : BitVec 7) (index : BitVec 16) (sub : Byte) (sized : Bool) (size : BitVec 32) (data : List Byte)
    (rest : List Delivery),
    s.cfg.WF → s.x = .x0 → node ≠ 0#7 → data.length ≤ s.cfg.bufMax →
    s.inputs = uploadInputs node index sub sized size data ++ rest →
    (∀ j, j < segmentCount data → ∃ t, core.run (2 + j) s = .next t ∧ t.x.st = .segmenting ∧
      t.tx = some (requestFrame node (toggleBytes 3#3 j))) ∧
    ∃ t, core.run (2 + segmentCount data) s = .next t ∧ t.x.st = .done ∧ t.x.err = .none ∧ t.tx = none ∧
      hostResult t.x = .bytes data ∧ t.inputs = rest
end

