-- ==== Sys2Proof/Laws/Operands.lean ====
section
/-! SUPPORT. Each field helper undone by its inverse: byte order, the SDO command byte, node numbers, runs of bytes. -/

namespace Sys2Proof

/-! ## Byte order -/

@[simp] theorem le16_byteOf (v : BitVec 16) : le16 (byteOf v 0) (byteOf v 1) = v := by
  apply BitVec.eq_of_getLsbD_eq
  intro i hi
  simp only [le16, byteOf, BitVec.getLsbD_append, BitVec.getLsbD_extractLsb']
  by_cases h : i < 8
  · simp [h]
  · simp only [h, if_false]
    have : i - 8 < 8 := by omega
    simp only [this, decide_true, Bool.true_and]
    congr 1; omega

@[simp] theorem byteOf_le16_zero (a b : Byte) : byteOf (le16 a b) 0 = a := by
  apply BitVec.eq_of_getLsbD_eq
  intro i hi
  simp only [le16, byteOf, BitVec.getLsbD_append, BitVec.getLsbD_extractLsb', hi, decide_true, Bool.true_and,
    Nat.mul_zero, Nat.zero_add, if_true]

@[simp] theorem byteOf_le16_one (a b : Byte) : byteOf (le16 a b) 1 = b := by
  apply BitVec.eq_of_getLsbD_eq
  intro i hi
  have h : ¬ 8 + i < 8 := by omega
  have e : 8 + i - 8 = i := by omega
  simp only [le16, byteOf, BitVec.getLsbD_append, BitVec.getLsbD_extractLsb', hi, decide_true, Bool.true_and,
    Nat.mul_one, h, if_false, e]

@[simp] theorem le32_byteOf (v : BitVec 32) : le32 (byteOf v 0) (byteOf v 1) (byteOf v 2) (byteOf v 3) = v := by
  apply BitVec.eq_of_getLsbD_eq
  intro i hi
  simp only [le32, byteOf, BitVec.getLsbD_append, BitVec.getLsbD_extractLsb']
  by_cases h0 : i < 8
  · simp [h0]
  · by_cases h1 : i - 8 < 8
    · simp only [h0, h1, if_true, if_false, decide_true, Bool.true_and]; congr 1; omega
    · by_cases h2 : i - 8 - 8 < 8
      · simp only [h0, h1, h2, if_true, if_false, decide_true, Bool.true_and]; congr 1; omega
      · have h3 : i - 8 - 8 - 8 < 8 := by omega
        simp only [h0, h1, h2, h3, if_false, decide_true, Bool.true_and]; congr 1; omega

theorem byteOf_le32 (a b c d : Byte) :
    byteOf (le32 a b c d) 0 = a ∧ byteOf (le32 a b c d) 1 = b ∧ byteOf (le32 a b c d) 2 = c ∧ byteOf (le32 a b c d) 3 = d := by
  refine ⟨?_, ?_, ?_, ?_⟩ <;>
  · apply BitVec.eq_of_getLsbD_eq
    intro i hi
    have h1 : ¬ 8 + i < 8 := by omega
    have h2 : ¬ 16 + i < 8 := by omega
    have h2' : ¬ 16 + i - 8 < 8 := by omega
    have h3 : ¬ 24 + i < 8 := by omega
    have h3' : ¬ 24 + i - 8 < 8 := by omega
    have h3'' : ¬ 24 + i - 8 - 8 < 8 := by omega
    simp only [le32, byteOf, BitVec.getLsbD_append, BitVec.getLsbD_extractLsb', hi, decide_true, Bool.true_and,
      Nat.mul_zero, Nat.zero_add, Nat.mul_one, Nat.reduceMul, h1, h2, h2', h3, h3', h3'', if_true, if_false]
    try (have e : 8 + i - 8 = i := by omega
         simp only [e, hi, if_true])
    try (have e : 16 + i - 8 - 8 = i := by omega
         simp only [e, hi, if_true])
    try (have e : 24 + i - 8 - 8 - 8 = i := by omega
         simp only [e])

/-! ## The SDO command byte -/

@[simp] theorem sdoSpecifier_segDataByte (cs : BitVec 3) (t : Bool) (n : BitVec 3) (c : Bool) :
    sdoSpecifier (segDataByte cs t n c) = cs := by revert cs t n c; decide

@[simp] theorem sdoT_segDataByte (cs : BitVec 3) (t : Bool) (n : BitVec 3) (c : Bool) :
    sdoT (segDataByte cs t n c) = t := by revert cs t n c; decide

@[simp] theorem sdoSegN_segDataByte (cs : BitVec 3) (t : Bool) (n : BitVec 3) (c : Bool) :
    sdoSegN (segDataByte cs t n c) = n := by revert cs t n c; decide

@[simp] theorem sdoC_segDataByte (cs : BitVec 3) (t : Bool) (n : BitVec 3) (c : Bool) :
    sdoC (segDataByte cs t n c) = c := by revert cs t n c; decide

@[simp] theorem sdoSpecifier_initDataByte (cs : BitVec 3) (n : BitVec 2) (e z : Bool) :
    sdoSpecifier (initDataByte cs n e z) = cs := by revert cs n e z; decide

@[simp] theorem sdoInitN_initDataByte (cs : BitVec 3) (n : BitVec 2) (e z : Bool) :
    sdoInitN (initDataByte cs n e z) = n := by revert cs n e z; decide

@[simp] theorem sdoE_initDataByte (cs : BitVec 3) (n : BitVec 2) (e z : Bool) :
    sdoE (initDataByte cs n e z) = e := by revert cs n e z; decide

@[simp] theorem sdoS_initDataByte (cs : BitVec 3) (n : BitVec 2) (e z : Bool) :
    sdoS (initDataByte cs n e z) = z := by revert cs n e z; decide

@[simp] theorem sdoSpecifier_segPlainByte (cs : BitVec 3) (t : Bool) : sdoSpecifier (segPlainByte cs t) = cs := by
  revert cs t; decide

@[simp] theorem sdoT_segPlainByte (cs : BitVec 3) (t : Bool) : sdoT (segPlainByte cs t) = t := by revert cs t; decide

@[simp] theorem sdoSpecifier_plainByte (cs : BitVec 3) : sdoSpecifier (plainByte cs) = cs := by revert cs; decide

/-! ## Node numbers -/

@[simp] theorem node7_node8 (nd : BitVec 7) : node7 (node8 nd) = nd := by revert nd; decide

theorem node8_node7 (node : BitVec 8) (h : node.toNat ≤ 127) : node8 (node7 node) = node := by
  apply BitVec.eq_of_toNat_eq
  simp only [node8, node7, BitVec.toNat_setWidth]
  omega

theorem isNodeId_iff (node : BitVec 8) : isNodeId node = true ↔ 1 ≤ node.toNat ∧ node.toNat ≤ 127 := by
  simp [isNodeId]

theorem isNodeId_node8 (nd : BitVec 7) : isNodeId (node8 nd) = nodeFits nd := by revert nd; decide

/-! ## Runs of bytes -/

theorem take_pad_toList (p : List Byte) (h : p.length ≤ 8) :
    (Bytes8.padded p).toList.take p.length = p := by
  match p, h with
  | [], _ => rfl
  | [_], _ => rfl
  | [_, _], _ => rfl
  | [_, _, _], _ => rfl
  | [_, _, _, _], _ => rfl
  | [_, _, _, _, _], _ => rfl
  | [_, _, _, _, _, _], _ => rfl
  | [_, _, _, _, _, _, _], _ => rfl
  | [_, _, _, _, _, _, _, _], _ => rfl
  | _ :: _ :: _ :: _ :: _ :: _ :: _ :: _ :: _ :: _, h => simp only [List.length_cons] at h; omega

@[simp] theorem padded_toList (d : Bytes8) : Bytes8.padded d.toList = d := rfl

@[simp] theorem toList_length (d : Bytes8) : d.toList.length = 8 := rfl

@[simp] theorem encodeSdo_length (c : SdoCommand) : (encodeSdo c).length = 8 := by cases c <;> rfl

/-! ## The SDO command byte put together again from its fields -/

theorem segDataByte_fields : ∀ b : Byte, segDataByte (sdoSpecifier b) (sdoT b) (sdoSegN b) (sdoC b) = b := by decide

theorem initDataByte_fields :
    ∀ b : Byte, initDataByte (sdoSpecifier b) (sdoInitN b) (sdoE b) (sdoS b) = b ↔ b.getLsbD 4 = false := by decide

theorem plainByte_fields : ∀ b : Byte, plainByte (sdoSpecifier b) = b ↔ b.extractLsb' 0 5 = 0#5 := by decide

theorem segPlainByte_fields : ∀ b : Byte, segPlainByte (sdoSpecifier b) (sdoT b) = b ↔ b.extractLsb' 0 4 = 0#4 := by decide

/-! ## A payload of eight bytes -/

theorem eight_bytes (p : List Byte) (h : p.length = 8) : ∃ b : Bytes8, p = b.toList := by
  match p, h with
  | [a, b, c, d, e, f, g, i], _ => exact ⟨⟨a, b, c, d, e, f, g, i⟩, rfl⟩

/-! ## The NMT code -/

@[simp] theorem nmtFunctionOf_nmtCode (f : NmtFunction) : nmtFunctionOf (nmtCode f) = some f := by cases f <;> decide

theorem nmtCode_of_nmtFunctionOf (b : Byte) (f : NmtFunction) (h : nmtFunctionOf b = some f) : nmtCode f = b := by
  unfold nmtFunctionOf at h
  split at h
  · cases h; exact Eq.symm ‹_›
  split at h
  · cases h; exact Eq.symm ‹_›
  split at h
  · cases h; exact Eq.symm ‹_›
  split at h
  · cases h; exact Eq.symm ‹_›
  split at h
  · cases h; exact Eq.symm ‹_›
  · cases h

/-! ## Lengths -/

theorem expLen_pos (n : BitVec 2) (z : Bool) : 1 ≤ expLen n z := by revert n z; decide

theorem expLen_le (n : BitVec 2) (z : Bool) : expLen n z ≤ 4 := by revert n z; decide

theorem segLen_le (n : BitVec 3) (c : Bool) : segLen n c ≤ 7 := by revert n c; decide

/-- As many bytes are taken from a segment as `segLen` says. -/
theorem take_segLen_length (d : Bytes7) (n : BitVec 3) (c : Bool) : (d.toList.take (segLen n c)).length = segLen n c := by
  rw [List.length_take]
  exact Nat.min_eq_left (segLen_le n c)

end Sys2Proof
end

