-- ==== Sys2Proof/Laws/State.lean ====
section
/-! SUPPORT. One lemma per field per update of the state and of the transfer record, each true by unfolding. -/

namespace Sys2Proof.Machine

/-! ## Updates of `State` -/

@[simp] theorem emit_x (s : State) (y : Xfer) (f : Option RawFrame) (r : Option HostResponse) : (emit s y f r).x = y := rfl
@[simp] theorem emit_cfg (s : State) (y : Xfer) (f : Option RawFrame) (r : Option HostResponse) : (emit s y f r).cfg = s.cfg := rfl
@[simp] theorem emit_inputs (s : State) (y : Xfer) (f : Option RawFrame) (r : Option HostResponse) : (emit s y f r).inputs = s.inputs := rfl
@[simp] theorem emit_txOk (s : State) (y : Xfer) (f : Option RawFrame) (r : Option HostResponse) : (emit s y f r).txOk = s.txOk := rfl
@[simp] theorem emit_tx (s : State) (y : Xfer) (f : Option RawFrame) (r : Option HostResponse) : (emit s y f r).tx = f := rfl
@[simp] theorem emit_resp (s : State) (y : Xfer) (f : Option RawFrame) (r : Option HostResponse) : (emit s y f r).resp = r := rfl
@[simp] theorem emit_parseOut (s : State) (y : Xfer) (f : Option RawFrame) (r : Option HostResponse) : (emit s y f r).parseOut = none := rfl
@[simp] theorem emit_packOut (s : State) (y : Xfer) (f : Option RawFrame) (r : Option HostResponse) : (emit s y f r).packOut = none := rfl

@[simp] theorem emitPack_x (s : State) (a : PackAnswer) : (emitPack s a).x = s.x := rfl
@[simp] theorem emitPack_cfg (s : State) (a : PackAnswer) : (emitPack s a).cfg = s.cfg := rfl
@[simp] theorem emitPack_inputs (s : State) (a : PackAnswer) : (emitPack s a).inputs = s.inputs := rfl
@[simp] theorem emitPack_txOk (s : State) (a : PackAnswer) : (emitPack s a).txOk = s.txOk := rfl
@[simp] theorem emitPack_tx (s : State) (a : PackAnswer) : (emitPack s a).tx = none := rfl
@[simp] theorem emitPack_resp (s : State) (a : PackAnswer) : (emitPack s a).resp = none := rfl
@[simp] theorem emitPack_parseOut (s : State) (a : PackAnswer) : (emitPack s a).parseOut = none := rfl
@[simp] theorem emitPack_packOut (s : State) (a : PackAnswer) : (emitPack s a).packOut = some a := rfl

@[simp] theorem take_x (s : State) (d : Delivery) (rest : List Delivery) : (take s d rest).x = s.x := rfl
@[simp] theorem take_cfg (s : State) (d : Delivery) (rest : List Delivery) : (take s d rest).cfg = s.cfg := rfl
@[simp] theorem take_inputs (s : State) (d : Delivery) (rest : List Delivery) : (take s d rest).inputs = rest := rfl
@[simp] theorem take_txOk (s : State) (d : Delivery) (rest : List Delivery) : (take s d rest).txOk = d.txOk := rfl
@[simp] theorem take_tx (s : State) (d : Delivery) (rest : List Delivery) : (take s d rest).tx = s.tx := rfl
@[simp] theorem take_resp (s : State) (d : Delivery) (rest : List Delivery) : (take s d rest).resp = s.resp := rfl
@[simp] theorem take_parseOut (s : State) (d : Delivery) (rest : List Delivery) : (take s d rest).parseOut = s.parseOut := rfl
@[simp] theorem take_packOut (s : State) (d : Delivery) (rest : List Delivery) : (take s d rest).packOut = s.packOut := rfl

@[simp] theorem refuse_x (s : State) (a : RefusalReason) : (refuse s a).x = s.x := rfl
@[simp] theorem refuse_cfg (s : State) (a : RefusalReason) : (refuse s a).cfg = s.cfg := rfl
@[simp] theorem refuse_inputs (s : State) (a : RefusalReason) : (refuse s a).inputs = s.inputs := rfl
@[simp] theorem refuse_txOk (s : State) (a : RefusalReason) : (refuse s a).txOk = s.txOk := rfl
@[simp] theorem refuse_tx (s : State) (a : RefusalReason) : (refuse s a).tx = none := rfl
@[simp] theorem refuse_resp (s : State) (a : RefusalReason) : (refuse s a).resp = some (.refused a) := rfl
@[simp] theorem refuse_parseOut (s : State) (a : RefusalReason) : (refuse s a).parseOut = none := rfl
@[simp] theorem refuse_packOut (s : State) (a : RefusalReason) : (refuse s a).packOut = none := rfl

@[simp] theorem ignored_x (s : State) : (ignored s).x = s.x := rfl
@[simp] theorem ignored_cfg (s : State) : (ignored s).cfg = s.cfg := rfl
@[simp] theorem ignored_inputs (s : State) : (ignored s).inputs = s.inputs := rfl
@[simp] theorem ignored_txOk (s : State) : (ignored s).txOk = s.txOk := rfl
@[simp] theorem ignored_tx (s : State) : (ignored s).tx = none := rfl
@[simp] theorem ignored_resp (s : State) : (ignored s).resp = none := rfl
@[simp] theorem ignored_parseOut (s : State) : (ignored s).parseOut = none := rfl
@[simp] theorem ignored_packOut (s : State) : (ignored s).packOut = none := rfl

@[simp] theorem emitParse_x (s : State) (a : Except ClassErr Message) : (emitParse s a).x = s.x := rfl
@[simp] theorem emitParse_cfg (s : State) (a : Except ClassErr Message) : (emitParse s a).cfg = s.cfg := rfl
@[simp] theorem emitParse_inputs (s : State) (a : Except ClassErr Message) : (emitParse s a).inputs = s.inputs := rfl
@[simp] theorem emitParse_txOk (s : State) (a : Except ClassErr Message) : (emitParse s a).txOk = s.txOk := rfl
@[simp] theorem emitParse_tx (s : State) (a : Except ClassErr Message) : (emitParse s a).tx = none := rfl
@[simp] theorem emitParse_resp (s : State) (a : Except ClassErr Message) : (emitParse s a).resp = none := rfl
@[simp] theorem emitParse_parseOut_ok (s : State) (m : Message) : (emitParse s (.ok m)).parseOut = some (.ok m) := rfl
@[simp] theorem emitParse_parseOut_error (s : State) (e : ClassErr) : (emitParse s (.error e)).parseOut = some (.err e) := rfl
@[simp] theorem emitParse_packOut (s : State) (a : Except ClassErr Message) : (emitParse s a).packOut = none := rfl

@[simp] theorem State.after_x (s : State) (y : Xfer) (f : Option RawFrame) (r : Option HostResponse) : (s.after y f r).x = y := rfl
@[simp] theorem State.after_cfg (s : State) (y : Xfer) (f : Option RawFrame) (r : Option HostResponse) : (s.after y f r).cfg = s.cfg := rfl
@[simp] theorem State.after_inputs (s : State) (y : Xfer) (f : Option RawFrame) (r : Option HostResponse) : (s.after y f r).inputs = s.inputs := rfl
@[simp] theorem State.after_txOk (s : State) (y : Xfer) (f : Option RawFrame) (r : Option HostResponse) : (s.after y f r).txOk = s.txOk := rfl
@[simp] theorem State.after_tx (s : State) (y : Xfer) (f : Option RawFrame) (r : Option HostResponse) : (s.after y f r).tx = f := rfl
@[simp] theorem State.after_resp (s : State) (y : Xfer) (f : Option RawFrame) (r : Option HostResponse) : (s.after y f r).resp = r := rfl
@[simp] theorem State.after_parseOut (s : State) (y : Xfer) (f : Option RawFrame) (r : Option HostResponse) : (s.after y f r).parseOut = none := rfl
@[simp] theorem State.after_packOut (s : State) (y : Xfer) (f : Option RawFrame) (r : Option HostResponse) : (s.after y f r).packOut = none := rfl

@[simp] theorem State.took_x (s : State) (d : Delivery) (rest : List Delivery) : (s.took d rest).x = s.x := rfl
@[simp] theorem State.took_cfg (s : State) (d : Delivery) (rest : List Delivery) : (s.took d rest).cfg = s.cfg := rfl
@[simp] theorem State.took_inputs (s : State) (d : Delivery) (rest : List Delivery) : (s.took d rest).inputs = rest := rfl
@[simp] theorem State.took_txOk (s : State) (d : Delivery) (rest : List Delivery) : (s.took d rest).txOk = d.txOk := rfl
@[simp] theorem State.took_tx (s : State) (d : Delivery) (rest : List Delivery) : (s.took d rest).tx = s.tx := rfl
@[simp] theorem State.took_resp (s : State) (d : Delivery) (rest : List Delivery) : (s.took d rest).resp = s.resp := rfl
@[simp] theorem State.took_parseOut (s : State) (d : Delivery) (rest : List Delivery) : (s.took d rest).parseOut = s.parseOut := rfl
@[simp] theorem State.took_packOut (s : State) (d : Delivery) (rest : List Delivery) : (s.took d rest).packOut = s.packOut := rfl

@[simp] theorem State.parsed_x (s : State) (a : ParseAnswer) : (s.parsed a).x = s.x := rfl
@[simp] theorem State.parsed_cfg (s : State) (a : ParseAnswer) : (s.parsed a).cfg = s.cfg := rfl
@[simp] theorem State.parsed_inputs (s : State) (a : ParseAnswer) : (s.parsed a).inputs = s.inputs := rfl
@[simp] theorem State.parsed_txOk (s : State) (a : ParseAnswer) : (s.parsed a).txOk = s.txOk := rfl
@[simp] theorem State.parsed_tx (s : State) (a : ParseAnswer) : (s.parsed a).tx = none := rfl
@[simp] theorem State.parsed_resp (s : State) (a : ParseAnswer) : (s.parsed a).resp = none := rfl
@[simp] theorem State.parsed_parseOut (s : State) (a : ParseAnswer) : (s.parsed a).parseOut = some a := rfl
@[simp] theorem State.parsed_packOut (s : State) (a : ParseAnswer) : (s.parsed a).packOut = none := rfl

@[simp] theorem State.packed_x (s : State) (a : PackAnswer) : (s.packed a).x = s.x := rfl
@[simp] theorem State.packed_cfg (s : State) (a : PackAnswer) : (s.packed a).cfg = s.cfg := rfl
@[simp] theorem State.packed_inputs (s : State) (a : PackAnswer) : (s.packed a).inputs = s.inputs := rfl
@[simp] theorem State.packed_txOk (s : State) (a : PackAnswer) : (s.packed a).txOk = s.txOk := rfl
@[simp] theorem State.packed_tx (s : State) (a : PackAnswer) : (s.packed a).tx = none := rfl
@[simp] theorem State.packed_resp (s : State) (a : PackAnswer) : (s.packed a).resp = none := rfl
@[simp] theorem State.packed_parseOut (s : State) (a : PackAnswer) : (s.packed a).parseOut = none := rfl
@[simp] theorem State.packed_packOut (s : State) (a : PackAnswer) : (s.packed a).packOut = some a := rfl

/-! ## Updates of `Xfer` -/

@[simp] theorem raise_st (x : Xfer) (st : St) (k : ErrKind) : (raise x st k).st = st := rfl
@[simp] theorem raise_dir (x : Xfer) (st : St) (k : ErrKind) : (raise x st k).dir = x.dir := rfl
@[simp] theorem raise_node (x : Xfer) (st : St) (k : ErrKind) : (raise x st k).node = x.node := rfl
@[simp] theorem raise_index (x : Xfer) (st : St) (k : ErrKind) : (raise x st k).index = x.index := rfl
@[simp] theorem raise_sub (x : Xfer) (st : St) (k : ErrKind) : (raise x st k).sub = x.sub := rfl
@[simp] theorem raise_exp (x : Xfer) (st : St) (k : ErrKind) : (raise x st k).exp = x.exp := rfl
@[simp] theorem raise_toggle (x : Xfer) (st : St) (k : ErrKind) : (raise x st k).toggle = x.toggle := rfl
@[simp] theorem raise_total (x : Xfer) (st : St) (k : ErrKind) : (raise x st k).total = x.total := rfl
@[simp] theorem raise_totalValid (x : Xfer) (st : St) (k : ErrKind) : (raise x st k).totalValid = x.totalValid := rfl
@[simp] theorem raise_remaining (x : Xfer) (st : St) (k : ErrKind) : (raise x st k).remaining = x.remaining := rfl
@[simp] theorem raise_buf (x : Xfer) (st : St) (k : ErrKind) : (raise x st k).buf = x.buf := rfl
@[simp] theorem raise_bufLen (x : Xfer) (st : St) (k : ErrKind) : (raise x st k).bufLen = x.bufLen := rfl
@[simp] theorem raise_err (x : Xfer) (st : St) (k : ErrKind) : (raise x st k).err = k := rfl
@[simp] theorem raise_abortCode (x : Xfer) (st : St) (k : ErrKind) : (raise x st k).abortCode = x.abortCode := rfl

@[simp] theorem raiseWithCode_st (x : Xfer) (st : St) (k : ErrKind) (code : BitVec 32) : (raiseWithCode x st k code).st = st := rfl
@[simp] theorem raiseWithCode_dir (x : Xfer) (st : St) (k : ErrKind) (code : BitVec 32) : (raiseWithCode x st k code).dir = x.dir := rfl
@[simp] theorem raiseWithCode_node (x : Xfer) (st : St) (k : ErrKind) (code : BitVec 32) : (raiseWithCode x st k code).node = x.node := rfl
@[simp] theorem raiseWithCode_index (x : Xfer) (st : St) (k : ErrKind) (code : BitVec 32) : (raiseWithCode x st k code).index = x.index := rfl
@[simp] theorem raiseWithCode_sub (x : Xfer) (st : St) (k : ErrKind) (code : BitVec 32) : (raiseWithCode x st k code).sub = x.sub := rfl
@[simp] theorem raiseWithCode_exp (x : Xfer) (st : St) (k : ErrKind) (code : BitVec 32) : (raiseWithCode x st k code).exp = x.exp := rfl
@[simp] theorem raiseWithCode_toggle (x : Xfer) (st : St) (k : ErrKind) (code : BitVec 32) : (raiseWithCode x st k code).toggle = x.toggle := rfl
@[simp] theorem raiseWithCode_total (x : Xfer) (st : St) (k : ErrKind) (code : BitVec 32) : (raiseWithCode x st k code).total = x.total := rfl
@[simp] theorem raiseWithCode_totalValid (x : Xfer) (st : St) (k : ErrKind) (code : BitVec 32) : (raiseWithCode x st k code).totalValid = x.totalValid := rfl
@[simp] theorem raiseWithCode_remaining (x : Xfer) (st : St) (k : ErrKind) (code : BitVec 32) : (raiseWithCode x st k code).remaining = x.remaining := rfl
@[simp] theorem raiseWithCode_buf (x : Xfer) (st : St) (k : ErrKind) (code : BitVec 32) : (raiseWithCode x st k code).buf = x.buf := rfl
@[simp] theorem raiseWithCode_bufLen (x : Xfer) (st : St) (k : ErrKind) (code : BitVec 32) : (raiseWithCode x st k code).bufLen = x.bufLen := rfl
@[simp] theorem raiseWithCode_err (x : Xfer) (st : St) (k : ErrKind) (code : BitVec 32) : (raiseWithCode x st k code).err = k := rfl
@[simp] theorem raiseWithCode_abortCode (x : Xfer) (st : St) (k : ErrKind) (code : BitVec 32) : (raiseWithCode x st k code).abortCode = code := rfl

@[simp] theorem countDown_st (x : Xfer) (k : Nat) : (countDown x k).st = x.st := rfl
@[simp] theorem countDown_dir (x : Xfer) (k : Nat) : (countDown x k).dir = x.dir := rfl
@[simp] theorem countDown_node (x : Xfer) (k : Nat) : (countDown x k).node = x.node := rfl
@[simp] theorem countDown_index (x : Xfer) (k : Nat) : (countDown x k).index = x.index := rfl
@[simp] theorem countDown_sub (x : Xfer) (k : Nat) : (countDown x k).sub = x.sub := rfl
@[simp] theorem countDown_exp (x : Xfer) (k : Nat) : (countDown x k).exp = x.exp := rfl
@[simp] theorem countDown_toggle (x : Xfer) (k : Nat) : (countDown x k).toggle = x.toggle := rfl
@[simp] theorem countDown_total (x : Xfer) (k : Nat) : (countDown x k).total = x.total := rfl
@[simp] theorem countDown_totalValid (x : Xfer) (k : Nat) : (countDown x k).totalValid = x.totalValid := rfl
@[simp] theorem countDown_remaining (x : Xfer) (k : Nat) : (countDown x k).remaining = BitVec.ofNat 32 (x.remaining.toNat - k) := rfl
@[simp] theorem countDown_buf (x : Xfer) (k : Nat) : (countDown x k).buf = x.buf := rfl
@[simp] theorem countDown_bufLen (x : Xfer) (k : Nat) : (countDown x k).bufLen = x.bufLen := rfl
@[simp] theorem countDown_err (x : Xfer) (k : Nat) : (countDown x k).err = x.err := rfl
@[simp] theorem countDown_abortCode (x : Xfer) (k : Nat) : (countDown x k).abortCode = x.abortCode := rfl

@[simp] theorem afterSegment_st (x : Xfer) : (afterSegment x).st = x.st := rfl
@[simp] theorem afterSegment_dir (x : Xfer) : (afterSegment x).dir = x.dir := rfl
@[simp] theorem afterSegment_node (x : Xfer) : (afterSegment x).node = x.node := rfl
@[simp] theorem afterSegment_index (x : Xfer) : (afterSegment x).index = x.index := rfl
@[simp] theorem afterSegment_sub (x : Xfer) : (afterSegment x).sub = x.sub := rfl
@[simp] theorem afterSegment_exp (x : Xfer) : (afterSegment x).exp = x.exp := rfl
@[simp] theorem afterSegment_toggle (x : Xfer) : (afterSegment x).toggle = x.toggle := rfl
@[simp] theorem afterSegment_total (x : Xfer) : (afterSegment x).total = x.total := rfl
@[simp] theorem afterSegment_totalValid (x : Xfer) : (afterSegment x).totalValid = x.totalValid := rfl
@[simp] theorem afterSegment_remaining (x : Xfer) : (afterSegment x).remaining = x.remaining - BitVec.ofNat 32 (min 7 x.remaining.toNat) := rfl
@[simp] theorem afterSegment_buf (x : Xfer) : (afterSegment x).buf = x.buf := rfl
@[simp] theorem afterSegment_bufLen (x : Xfer) : (afterSegment x).bufLen = x.bufLen := rfl
@[simp] theorem afterSegment_err (x : Xfer) : (afterSegment x).err = x.err := rfl
@[simp] theorem afterSegment_abortCode (x : Xfer) : (afterSegment x).abortCode = x.abortCode := rfl

/-! ## The two ways a next state is written agree -/

theorem emit_eq_after (s : State) (y : Xfer) (f : Option RawFrame) (r : Option HostResponse) :
    emit s y f r = s.after y f r := rfl

theorem emitPack_eq_packed (s : State) (a : PackAnswer) : emitPack s a = s.packed a := rfl

theorem emitParse_ok_eq_parsed (s : State) (m : Message) : emitParse s (.ok m) = s.parsed (.ok m) := rfl

theorem emitParse_error_eq_parsed (s : State) (e : ClassErr) : emitParse s (.error e) = s.parsed (.err e) := rfl

theorem take_eq_took (s : State) (d : Delivery) (rest : List Delivery) : take s d rest = s.took d rest := rfl

theorem refuse_eq_after (s : State) (a : RefusalReason) : refuse s a = s.after s.x none (some (.refused a)) := rfl

theorem ignored_eq_after (s : State) : ignored s = s.after s.x none none := rfl

/-- Offering a frame: R216 in the words of `finish` and of `State.afterOffer`. -/
theorem emit_finish_some (s : State) (x1 : Xfer) (f : RawFrame) (r : Option HostResponse) :
    emit s (finish x1 (some f) s.txOk) (some f) r = s.afterOffer x1 f r := by
  unfold finish State.afterOffer
  cases s.txOk <;> rfl

theorem finish_none (x1 : Xfer) (b : Bool) : finish x1 none b = x1 := rfl

theorem finish_taken (x1 : Xfer) (f : Option RawFrame) : finish x1 f true = x1 := by cases f <;> rfl

theorem waiting_iff (x : Xfer) : x.waiting = true ↔ x.Waits := by
  unfold Xfer.waiting Xfer.Waits
  cases x.st <;> simp

theorem terminal_iff (x : Xfer) : x.terminal = true ↔ x.st = .done ∨ x.st = .aborted ∨ x.st = .timedOut ∨ x.st = .error := by
  unfold Xfer.terminal
  cases x.st <;> simp

end Sys2Proof.Machine
end

