-- ==== Sys2Proof/Laws/Ops.lean ====
section
/-! SUPPORT. What each shared operation can do, said once: the transfer buffer, a response, a frame form at a port, the decoder's
frames, a step. -/

namespace Sys2Proof.Machine

/-! ## The transfer buffer -/

/-- A read inside the buffer gives the bytes of `buf` from there on. -/
theorem memRead_inside (x : Xfer) (a n : Nat) (hw : x.bufLen = x.buf.length) (h : a + n ≤ x.bufLen) :
    memRead x a n = some ((x.buf.drop a).take n) := by
  have h' : a + n ≤ x.buf.length := hw ▸ h
  simp only [memRead, h, h', and_self, if_true]

/-- A read that gives something lies inside the buffer. -/
theorem memRead_some (x : Xfer) (a n : Nat) (v : List Byte) (h : memRead x a n = some v) :
    a + n ≤ x.bufLen ∧ a + n ≤ x.buf.length ∧ v = (x.buf.drop a).take n := by
  unfold memRead at h
  split at h
  · rename_i hc
    exact ⟨hc.1, hc.2, (Option.some.inj h).symm⟩
  · cases h

/-- A write that gives something fits `BUF_MAX` and appends. -/
theorem memWrite_some (cfg : Cfg) (x y : Xfer) (v : List Byte) (h : memWrite cfg x v = some y) :
    x.bufLen + v.length ≤ cfg.bufMax ∧ y = { x with buf := x.buf ++ v, bufLen := x.bufLen + v.length } := by
  unfold memWrite at h
  split at h
  · exact ⟨‹_›, (Option.some.inj h).symm⟩
  · cases h

/-- A write that gives nothing would exceed `BUF_MAX`. -/
theorem memWrite_none (cfg : Cfg) (x : Xfer) (v : List Byte) (h : memWrite cfg x v = none) :
    cfg.bufMax < x.bufLen + v.length := by
  unfold memWrite at h
  split at h
  · cases h
  · exact Nat.lt_of_not_le ‹_›

/-- The one operation that writes the buffer keeps its form. -/
theorem memWrite_wf (cfg : Cfg) (x y : Xfer) (v : List Byte) (hw : Memory.wf cfg x) (h : memWrite cfg x v = some y) :
    Memory.wf cfg y := by
  obtain ⟨hfit, rfl⟩ := memWrite_some cfg x y v h
  exact ⟨by simp [hw.1], hfit⟩

/-- What was written reads back, and what stood there before reads as before. -/
theorem memRead_memWrite (cfg : Cfg) (x y : Xfer) (v : List Byte) (hw : x.bufLen = x.buf.length)
    (h : memWrite cfg x v = some y) :
    memRead y x.bufLen v.length = some v ∧ ∀ a n, a + n ≤ x.bufLen → memRead y a n = memRead x a n := by
  obtain ⟨-, rfl⟩ := memWrite_some cfg x y v h
  constructor
  · rw [memRead_inside _ _ _ (by simp [hw]) (by simp)]
    simp [hw]
  · intro a n han
    rw [memRead_inside _ _ _ (by simp [hw]) (by simp only; omega), memRead_inside x a n hw han]
    simp only [Option.some.injEq]
    rw [List.drop_append_of_le_length (by omega), List.take_append_of_le_length (by simp; omega)]

/-- Raising, dropping and finishing keep the buffer's form. -/
theorem raise_wf (cfg : Cfg) (x : Xfer) (st : St) (k : ErrKind) (h : Memory.wf cfg x) : Memory.wf cfg (raise x st k) := h

theorem dropTransfer_wf (cfg : Cfg) (x : Xfer) : Memory.wf cfg (dropTransfer x) := ⟨rfl, Nat.zero_le _⟩

theorem finish_wf (cfg : Cfg) (x1 : Xfer) (tx : Option RawFrame) (b : Bool) (h : Memory.wf cfg x1) :
    Memory.wf cfg (finish x1 tx b) := by
  cases tx <;> cases b <;> exact h

theorem reset_wf : Memory.wf State.reset.cfg State.reset.x := ⟨rfl, Nat.zero_le _⟩

/-! ## The records operations leave -/

/-- All that `sendSegment` can do (R205). -/
theorem sendSegment_ok (y x1 : Xfer) (tx : Option RawFrame) (h : sendSegment y = .ok (x1, tx)) :
    y.remaining.toNat ≤ y.bufLen ∧
      x1 = { y with remaining := BitVec.ofNat 32 (y.remaining.toNat - min 7 y.remaining.toNat) } ∧
      ∃ bytes, memRead y (y.bufLen - y.remaining.toNat) (min 7 y.remaining.toNat) = some bytes ∧
        tx = some (req y (downloadSegment y (min 7 y.remaining.toNat) bytes)) := by
  simp only [sendSegment] at h
  split at h
  · split at h
    · cases h; exact ⟨‹_›, rfl, _, ‹_›, rfl⟩
    · cases h
  · cases h

/-- The outcomes of a response: every accepted case of R198 to R210, and the one way an uninterpretable one ends. -/
inductive ResponseCase (cfg : Cfg) (x : Xfer) : SdoCommand → Xfer → Option RawFrame → Prop where
  | remoteAbort (index : BitVec 16) (sub : Byte) (code : BitVec 32) :
    ResponseCase cfg x (.abort index sub code) (raiseWithCode x .aborted .remoteAbort code) none
  | notInterpreted (cmd : SdoCommand) (h : ∀ index sub code, cmd ≠ .abort index sub code)
    (hw : ¬ expectedForm x cmd ∨ otherAddress x cmd) :
    ResponseCase cfg x cmd (uninterpretable cfg x).1 (uninterpretable cfg x).2
  | expeditedDownload (hs : x.st = .initiating) (hd : x.dir = .download) (he : x.exp = true) :
    ResponseCase cfg x (.initDownloadRsp x.index x.sub) { x with st := .done } none
  | segmentedDownload (hs : x.st = .initiating) (hd : x.dir = .download) (he : x.exp = false) (x1 : Xfer)
    (tx : Option RawFrame) (h : sendSegment { x with st := .segmenting, toggle := false } = .ok (x1, tx)) :
    ResponseCase cfg x (.initDownloadRsp x.index x.sub) x1 tx
  | expeditedUpload (hs : x.st = .initiating) (hd : x.dir = .upload) (n : BitVec 2) (z : Bool) (d : Bytes4) :
    ResponseCase cfg x (.initUploadRsp n true z x.index x.sub d) (acceptExpedited x n z d) none
  | segmentedUpload (hs : x.st = .initiating) (hd : x.dir = .upload) (n : BitVec 2) (z : Bool) (d : Bytes4) :
    ResponseCase cfg x (.initUploadRsp n false z x.index x.sub d) (acceptSegmented x z d) (some (req x (.uploadSegReq false)))
  | wrongToggleDown (hs : x.st = .segmenting) (hd : x.dir = .download) (t : Bool) (ht : t ≠ x.toggle) :
    ResponseCase cfg x (.downloadSegRsp t) (raise x .error .toggleMismatch) none
  | lastAcknowledged (hs : x.st = .segmenting) (hd : x.dir = .download) (hr : x.remaining = 0#32) :
    ResponseCase cfg x (.downloadSegRsp x.toggle) { x with st := .done } none
  | acknowledged (hs : x.st = .segmenting) (hd : x.dir = .download) (hr : x.remaining ≠ 0#32) (x1 : Xfer)
    (tx : Option RawFrame) (h : sendSegment { x with toggle := !x.toggle } = .ok (x1, tx)) :
    ResponseCase cfg x (.downloadSegRsp x.toggle) x1 tx
  | wrongToggleUp (hs : x.st = .segmenting) (hd : x.dir = .upload) (t : Bool) (n : BitVec 3) (c : Bool) (d : Bytes7)
    (ht : t ≠ x.toggle) :
    ResponseCase cfg x (.uploadSegRsp t n c d) (raise x .error .toggleMismatch) none
  | overflow (hs : x.st = .segmenting) (hd : x.dir = .upload) (n : BitVec 3) (c : Bool) (d : Bytes7)
    (hw : memWrite cfg x (d.toList.take (segLen n c)) = none) :
    ResponseCase cfg x (.uploadSegRsp x.toggle n c d) (abortOut x cfg.overflowAbortCode .bufferOverflow).1
      (abortOut x cfg.overflowAbortCode .bufferOverflow).2
  | lastAppended (hs : x.st = .segmenting) (hd : x.dir = .upload) (n : BitVec 3) (d : Bytes7) (y : Xfer)
    (hw : memWrite cfg x (d.toList.take (segLen n true)) = some y) :
    ResponseCase cfg x (.uploadSegRsp x.toggle n true d) { countDown y (segLen n true) with st := .done } none
  | appended (hs : x.st = .segmenting) (hd : x.dir = .upload) (n : BitVec 3) (d : Bytes7) (y : Xfer)
    (hw : memWrite cfg x (d.toList.take (segLen n false)) = some y) :
    ResponseCase cfg x (.uploadSegRsp x.toggle n false d) { countDown y (segLen n false) with toggle := !x.toggle }
      (some (req x (.uploadSegReq (!x.toggle))))

/-- Everything a response can do. -/
theorem onResponse_cases (cfg : Cfg) (x x1 : Xfer) (cmd : SdoCommand) (tx : Option RawFrame)
    (h : onResponse cfg x cmd = .ok (x1, tx)) : ResponseCase cfg x cmd x1 tx := by
  have hu : ∀ c : SdoCommand, (∀ index sub code, c ≠ .abort index sub code) →
      (¬ expectedForm x c ∨ otherAddress x c) → (.ok (uninterpretable cfg x) : SsmResult) = .ok (x1, tx) → ResponseCase cfg x c x1 tx := by
    intro c hc hw he
    cases he
    exact .notInterpreted c hc hw
  cases cmd with
  | abort index sub code => cases h; exact .remoteAbort index sub code
  | initDownloadReq n e z index sub d => exact hu _ (by simp) (.inl id) h
  | initUploadReq index sub => exact hu _ (by simp) (.inl id) h
  | downloadSegReq t n c d => exact hu _ (by simp) (.inl id) h
  | uploadSegReq t => exact hu _ (by simp) (.inl id) h
  | initDownloadRsp index sub =>
    simp only [onResponse, onInitDownloadRsp] at h
    split at h <;> try exact hu _ (by simp) (.inl (by simp_all [expectedForm])) h
    rename_i hs hd
    split at h
    · exact hu _ (by simp) (.inr ‹_›) h
    rename_i ha
    simp only [not_or, not_not] at ha
    obtain ⟨rfl, rfl⟩ := ha
    split at h
    · cases h; exact .expeditedDownload hs hd ‹_›
    · exact .segmentedDownload hs hd (by simpa using ‹¬ x.exp = true›) x1 tx h
  | initUploadRsp n e z index sub d =>
    simp only [onResponse, onInitUploadRsp] at h
    split at h <;> try exact hu _ (by simp) (.inl (by simp_all [expectedForm])) h
    rename_i hs hd
    split at h
    · exact hu _ (by simp) (.inr ‹_›) h
    rename_i ha
    simp only [not_or, not_not] at ha
    obtain ⟨rfl, rfl⟩ := ha
    cases e
    · cases h; exact .segmentedUpload hs hd n z d
    · cases h; exact .expeditedUpload hs hd n z d
  | downloadSegRsp t =>
    simp only [onResponse, onDownloadSegRsp] at h
    split at h <;> try exact hu _ (by simp) (.inl (by simp_all [expectedForm])) h
    rename_i hs hd
    split at h
    · cases h; exact .wrongToggleDown hs hd t ‹_›
    rename_i ht
    obtain rfl := not_not.mp ht
    split at h
    · cases h; exact .lastAcknowledged hs hd ‹_›
    · exact .acknowledged hs hd ‹_› x1 tx h
  | uploadSegRsp t n c d =>
    simp only [onResponse, onUploadSegRsp] at h
    split at h <;> try exact hu _ (by simp) (.inl (by simp_all [expectedForm])) h
    rename_i hs hd
    split at h
    · cases h; exact .wrongToggleUp hs hd t n c d ‹_›
    rename_i ht
    obtain rfl := not_not.mp ht
    split at h
    · cases h; exact .overflow hs hd n c d ‹_›
    · cases c
      · cases h; exact .appended hs hd n d _ ‹_›
      · cases h; exact .lastAppended hs hd n d _ ‹_›

/-- Everything a received frame can do while a response is awaited (R193 to R195, R213). -/
theorem onRx_cases (cfg : Cfg) (x x1 : Xfer) (res : Except ClassErr Message) (tx : Option RawFrame)
    (h : onRx cfg x res = .ok (x1, tx)) :
    (∃ e, res = .error e ∧ x1 = classFailure x e ∧ tx = none) ∨
    (∃ m, res = .ok m ∧ (∀ cmd, m ≠ .sdoResponse (node8 x.node) cmd) ∧ x1 = foreignFrame x ∧ tx = none) ∨
    (∃ cmd, res = .ok (.sdoResponse (node8 x.node) cmd) ∧ onResponse cfg x cmd = .ok (x1, tx)) := by
  cases res with
  | error e => cases h; exact .inl ⟨e, rfl, rfl, rfl⟩
  | ok m =>
    right
    cases m with
    | sdoResponse node cmd =>
      simp only [onRx] at h
      split at h
      · cases h
        refine .inl ⟨_, rfl, ?_, rfl, rfl⟩
        rintro c hc
        cases hc
        exact absurd rfl ‹_›
      · rename_i hn
        obtain rfl := not_not.mp hn
        exact .inr ⟨cmd, rfl, h⟩
    | nmt _ _ => cases h; exact .inl ⟨_, rfl, by simp, rfl, rfl⟩
    | sync => cases h; exact .inl ⟨_, rfl, by simp, rfl, rfl⟩
    | emcy _ _ _ _ => cases h; exact .inl ⟨_, rfl, by simp, rfl, rfl⟩
    | pdo _ _ _ => cases h; exact .inl ⟨_, rfl, by simp, rfl, rfl⟩
    | sdoRequest _ _ => cases h; exact .inl ⟨_, rfl, by simp, rfl, rfl⟩
    | heartbeat _ _ => cases h; exact .inl ⟨_, rfl, by simp, rfl, rfl⟩

/-- Everything a delivered frame can do, for a verdict of `decode`. -/
theorem receive_next (res : Except ClassErr Message) (s t : State) (h : receive res s = .next t) :
    (s.x.waiting = true ∧ ∃ x1 tx, onRx s.cfg s.x res = .ok (x1, tx) ∧ t = emit s (finish x1 tx s.txOk) tx none) ∨
    (s.x.waiting = false ∧ t = ignored s) := by
  unfold receive at h
  split at h
  · left
    refine ⟨‹_›, ?_⟩
    unfold concludeRx at h
    split at h
    · cases h
    · cases h; exact ⟨_, _, ‹_›, rfl⟩
  · cases h; exact .inr ⟨by simpa using ‹¬ s.x.waiting = true›, rfl⟩

/-- Everything a frame form can do, by its port. -/
theorem formAt_next (port : Port) (res : Except ClassErr Message) (s t : State) (h : formAt port res s = .next t) :
    (port = .rx ∧ receive res s = .next t) ∨ (port = .parse ∧ t = emitParse s res) ∨
    (port = .pack ∧ ∃ a, t = emitPack s a) := by
  cases port with
  | rx => exact .inl ⟨rfl, h⟩
  | parse => cases h; exact .inr (.inl ⟨rfl, rfl⟩)
  | pack => cases res <;> cases h <;> exact .inr (.inr ⟨rfl, _, rfl⟩)

/-! ## Instructions and the decoder -/

/-- Every frame form's meaning is `formAt` at its port, on the result of decoding it. -/
theorem exec_frame (i : Instr) (f : Form) (s : State) (h : i.view = .frame f) : exec i s = formAt f.port f.result s := by
  cases i <;> cases h <;> rfl

theorem frameInstr_view (port : Port) (k : Kind) (nd : BitVec 7) (p : List Byte) (i : Instr)
    (h : frameInstr port k nd p = some i) :
    ∃ f, i.view = .frame f ∧ f.port = port ∧ f.result = payloadResult k nd p := by
  cases k with
  | nmt =>
    cases h
    simp only [payloadResult, nmtResult, nmtFrameInstr]
    cases hp : decodeNmt p with
    | error e => exact ⟨_, rfl, rfl, by simp [Form.ofKind, payloadResult, nmtResult, hp]⟩
    | ok ft => obtain ⟨fn, target⟩ := ft; cases fn <;> exact ⟨_, rfl, rfl, rfl⟩
  | sync => cases h; exact ⟨_, rfl, rfl, rfl⟩
  | emcy => cases h; exact ⟨_, rfl, rfl, rfl⟩
  | heartbeat => cases h; exact ⟨_, rfl, rfl, rfl⟩
  | pdo slot =>
    obtain ⟨num, dir⟩ := slot
    simp only [frameInstr, pdoInstr] at h
    split at h <;> first | (cases h; exact ⟨_, rfl, rfl, by simp_all [Form.ofKind, payloadResult]⟩) | cases h
  | sdoRsp =>
    cases h
    simp only [payloadResult, sdoRspResult, sdoRspFrameInstr]
    cases hp : decodeSdoRsp p with
    | error e => exact ⟨_, rfl, rfl, by simp [Form.ofKind, payloadResult, sdoRspResult, hp]⟩
    | ok c => cases c <;> exact ⟨_, rfl, rfl, by simp [Form.ofKind, Form.ofMessage, payloadResult, sdoRspResult, hp, Except.map]⟩
  | sdoReq =>
    cases h
    simp only [payloadResult, sdoReqResult, sdoReqFrameInstr]
    cases hp : decodeSdoReq p with
    | error e => exact ⟨_, rfl, rfl, by simp [Form.ofKind, payloadResult, sdoReqResult, hp]⟩
    | ok c => cases c <;> exact ⟨_, rfl, rfl, by simp [Form.ofKind, Form.ofMessage, payloadResult, sdoReqResult, hp, Except.map]⟩

/-- `classify` gives PDO slots numbered 1 to 4 only. -/
theorem classify_slot (id : BitVec 11) (slot : PdoSlot) (nd : BitVec 7) (h : classify id = .ok (.pdo slot, nd)) :
    1 ≤ slot.num ∧ slot.num ≤ 4 := by
  have key : ∀ (n : BitVec 7) (k : Kind), nodeBlock k n = .ok (.pdo slot, nd) → k = .pdo slot := by
    intro n k hk
    unfold nodeBlock at hk
    split at hk <;> cases hk
    rfl
  unfold classify at h
  simp only at h
  split at h <;> first
    | (cases key _ _ h <;> exact ⟨by decide, by decide⟩)
    | (split at h <;> cases h)
    | cases h

/-- A slot in range has a row. -/
theorem pdoInstr_some (port : Port) (slot : PdoSlot) (nd : BitVec 7) (p : List Byte) (h1 : 1 ≤ slot.num)
    (h4 : slot.num ≤ 4) : ∃ i, pdoInstr port slot nd p = some i := by
  obtain ⟨num, dir⟩ := slot
  simp only at h1 h4
  have : num = 1 ∨ num = 2 ∨ num = 3 ∨ num = 4 := by omega
  rcases this with rfl | rfl | rfl | rfl <;> cases dir <;> exact ⟨_, rfl⟩

/-- A frame at `RX` or `PARSE` is an instruction whose result is what `decode` gives, or is refused with what `decode` gives. -/
theorem decodeFrame_result (port : Port) (r : RawFrame) :
    (∃ i f, decodeFrame port r = .instr i ∧ i.view = .frame f ∧ f.port = port ∧ f.result = decodeMessage r) ∨
    (∃ e, decodeFrame port r = .badFrame port e ∧ decodeMessage r = .error e) := by
  unfold decodeFrame decodeMessage
  cases parseRaw r with
  | error e => exact .inr ⟨e, rfl, rfl⟩
  | ok f =>
    simp only
    cases hc : classify f.id with
    | error e => exact .inr ⟨e, rfl, rfl⟩
    | ok kn =>
      obtain ⟨k, nd⟩ := kn
      left
      have hi : ∃ i, frameInstr port k nd f.payload = some i := by
        cases k with
        | pdo slot => exact pdoInstr_some _ _ _ _ (classify_slot _ _ _ hc).1 (classify_slot _ _ _ hc).2
        | _ => exact ⟨_, rfl⟩
      obtain ⟨i, hi⟩ := hi
      obtain ⟨g, hv, hp, hr⟩ := frameInstr_view _ _ _ _ _ hi
      exact ⟨i, g, by simp [hi], hv, hp, hr⟩

/-! ## A step -/

/-- A step that answers has taken the oldest delivery. -/
theorem step_next (s t : State) (h : step s = .next t) :
    ∃ d rest, s.inputs = d :: rest ∧
      ((∃ i, decodeEvent d.ev = .instr i ∧ exec i (take s d rest) = .next t) ∨
        fetchDecoded (decodeEvent d.ev) (take s d rest) = .done t) := by
  unfold step fetch at h
  cases hi : s.inputs with
  | nil => rw [hi] at h; cases h
  | cons d rest =>
    rw [hi] at h
    simp only at h
    refine ⟨d, rest, rfl, ?_⟩
    cases hd : decodeEvent d.ev with
    | instr i => rw [hd] at h; exact .inl ⟨i, rfl, h⟩
    | badFrame port e => rw [hd] at h; cases h; exact .inr rfl
    | badCommand op => rw [hd] at h; cases h; exact .inr rfl
    | badMessage m => rw [hd] at h; cases h; exact .inr rfl
    | timeout => rw [hd] at h; cases h; exact .inr rfl
    | rxIoError => rw [hd] at h; cases h; exact .inr rfl
    | reset => rw [hd] at h; cases h; exact .inr rfl

/-- A step on a frame delivered by the bus is `receive` on what `decode` makes of the frame (R222). -/
theorem step_rx (s : State) (d : Delivery) (rest : List Delivery) (r : RawFrame) (hi : s.inputs = d :: rest)
    (hr : d.ev = .rx r) : step s = receive (decodeMessage r) (take s d rest) := by
  unfold step fetch
  rw [hi]
  simp only [hr, decodeEvent]
  rcases decodeFrame_result .rx r with ⟨i, f, hd, hv, hp, hres⟩ | ⟨e, hd, hres⟩
  · rw [hd]
    simp only [fetchDecoded]
    rw [exec_frame i f _ hv, hp, hres]
    rfl
  · rw [hd, hres]
    simp only [fetchDecoded, onBadFrame, receive, onRx, concludeRx, finish_none]
    split <;> rfl

/-! ## Runs -/

theorem run_zero (s : State) : core.run 0 s = .next s := by
  simp only [Host.Core.run]

theorem run_next (n : Nat) (s s' : State) (h : step s = .next s') : core.run (n + 1) s = core.run n s' := by
  have h' : core.step s = .next s' := h
  simp only [Host.Core.run, h']

/-- A step after a run. -/
theorem run_snoc (n : Nat) (s t u : State) (h : core.run n s = .next t) (hu : step t = .next u) :
    core.run (n + 1) s = .next u := by
  induction n generalizing s with
  | zero =>
    rw [run_zero] at h
    cases h
    rw [run_next 0 _ u hu, run_zero]
  | succ n ih =>
    cases hs : step s with
    | next s' =>
      rw [run_next n s s' hs] at h
      rw [run_next (n + 1) s s' hs]
      exact ih s' h
    | fault r =>
      have h' : core.step s = .fault r := hs
      simp only [Host.Core.run, h'] at h
      cases h
    | refused r =>
      have h' : core.step s = .refused r := hs
      simp only [Host.Core.run, h'] at h
      cases h

end Sys2Proof.Machine
end

