-- ==== Sys2Proof/Laws/PerInstr.lean ====
section
/-! SUPPORT. For every instruction: the frame a well-formed one stands for has at most eight payload bytes and an identifier the
classifier recognizes (30_encoding.md R70, R73, R83; 41_message_classifier.md R146). -/

namespace Sys2Proof.Laws.EncodedFrame

/-- A frame that can be on the bus: 0 to 8 payload bytes and a recognized identifier. -/
def Fits (f : Form) : Prop := f.payload.length ≤ 8 ∧ (classify f.id).isOk = true

/-- A well-formed frame form stands for a frame that can be on the bus. -/
def Statement (i : Instr) : Prop := i.wf = true → ∀ f, i.view = .frame f → Fits f

theorem nmt_id (nd : BitVec 7) : (classify (cobIdOf .nmt nd)).isOk = true := by
  simp only [cobIdOf]; decide

theorem sync_id (nd : BitVec 7) : (classify (cobIdOf .sync nd)).isOk = true := by
  simp only [cobIdOf]; decide

theorem emcy_id (nd : BitVec 7) (h : nodeFits nd = true) : (classify (cobIdOf .emcy nd)).isOk = true := by
  revert nd; decide

theorem pdo_id (k : Fin 4) (nd : BitVec 7) (h : nodeFits nd = true) :
    (classify (cobIdOf (.pdo ⟨k.val + 1, .tx⟩) nd)).isOk = true ∧ (classify (cobIdOf (.pdo ⟨k.val + 1, .rx⟩) nd)).isOk = true := by
  revert k nd; decide

theorem sdoRsp_id (nd : BitVec 7) (h : nodeFits nd = true) : (classify (cobIdOf .sdoRsp nd)).isOk = true := by
  revert nd; decide

theorem sdoReq_id (nd : BitVec 7) (h : nodeFits nd = true) : (classify (cobIdOf .sdoReq nd)).isOk = true := by
  revert nd; decide

theorem heartbeat_id (nd : BitVec 7) (h : nodeFits nd = true) : (classify (cobIdOf .heartbeat nd)).isOk = true := by
  revert nd; decide

theorem payloadFits_length (port : Port) (n : Nat) (p : List Byte) (hn : n ≤ 8) (h : payloadFits port n p = true) :
    p.length ≤ 8 := by
  cases port <;> simp only [payloadFits, decide_eq_true_eq] at h <;> omega

theorem formlessFits_length {α : Type} (port : Port) (p : List Byte) (dec : Except ClassErr α)
    (h : formlessFits port p dec = true) : p.length ≤ 8 := by
  cases port <;> simp [formlessFits] at h <;> exact h.1

theorem request_fits (port : Port) (nd : BitVec 7) (c : SdoCommand) (h : nodeFits nd = true) :
    Fits (.ofMessage port (.sdoRequest (node8 nd) c)) :=
  ⟨Nat.le_of_eq (encodeSdo_length c), by simpa [Form.ofMessage, Message.cobId, Message.kind, Message.nodeOf] using sdoReq_id nd h⟩

theorem response_fits (port : Port) (nd : BitVec 7) (c : SdoCommand) (h : nodeFits nd = true) :
    Fits (.ofMessage port (.sdoResponse (node8 nd) c)) :=
  ⟨Nat.le_of_eq (encodeSdo_length c), by simpa [Form.ofMessage, Message.cobId, Message.kind, Message.nodeOf] using sdoRsp_id nd h⟩

theorem nmt_fits (port : Port) (fn : NmtFunction) (node : BitVec 8) : Fits (.ofMessage port (.nmt fn node)) :=
  ⟨by simp [Form.ofMessage, Message.payload], nmt_id 0#7⟩

/-! ## One lemma per constructor -/

theorem nmt (port : Port) (p : List Byte) : Statement (.nmt port p) := by
  rintro h f ⟨⟩
  exact ⟨formlessFits_length _ _ _ h, nmt_id 0#7⟩

theorem sync (port : Port) (p : List Byte) : Statement (.sync port p) := by
  rintro h f ⟨⟩
  exact ⟨payloadFits_length port 0 p (by omega) h, sync_id 0#7⟩

theorem emcy (port : Port) (node : BitVec 7) (p : List Byte) : Statement (.emcy port node p) := by
  rintro h f ⟨⟩
  simp only [Instr.wf, Bool.and_eq_true] at h
  exact ⟨payloadFits_length port 8 p (by omega) h.2, emcy_id node h.1⟩

theorem heartbeat (port : Port) (node : BitVec 7) (p : List Byte) : Statement (.heartbeat port node p) := by
  rintro h f ⟨⟩
  simp only [Instr.wf, Bool.and_eq_true] at h
  exact ⟨payloadFits_length port 1 p (by omega) h.2, heartbeat_id node h.1⟩

theorem tpdo1 (port : Port) (node : BitVec 7) (p : List Byte) : Statement (.tpdo1 port node p) := by
  rintro h f ⟨⟩
  simp only [Instr.wf, Bool.and_eq_true, decide_eq_true_eq] at h
  exact ⟨h.2, (pdo_id 0 node h.1).1⟩

theorem rpdo1 (port : Port) (node : BitVec 7) (p : List Byte) : Statement (.rpdo1 port node p) := by
  rintro h f ⟨⟩
  simp only [Instr.wf, Bool.and_eq_true, decide_eq_true_eq] at h
  exact ⟨h.2, (pdo_id 0 node h.1).2⟩

theorem tpdo2 (port : Port) (node : BitVec 7) (p : List Byte) : Statement (.tpdo2 port node p) := by
  rintro h f ⟨⟩
  simp only [Instr.wf, Bool.and_eq_true, decide_eq_true_eq] at h
  exact ⟨h.2, (pdo_id 1 node h.1).1⟩

theorem rpdo2 (port : Port) (node : BitVec 7) (p : List Byte) : Statement (.rpdo2 port node p) := by
  rintro h f ⟨⟩
  simp only [Instr.wf, Bool.and_eq_true, decide_eq_true_eq] at h
  exact ⟨h.2, (pdo_id 1 node h.1).2⟩

theorem tpdo3 (port : Port) (node : BitVec 7) (p : List Byte) : Statement (.tpdo3 port node p) := by
  rintro h f ⟨⟩
  simp only [Instr.wf, Bool.and_eq_true, decide_eq_true_eq] at h
  exact ⟨h.2, (pdo_id 2 node h.1).1⟩

theorem rpdo3 (port : Port) (node : BitVec 7) (p : List Byte) : Statement (.rpdo3 port node p) := by
  rintro h f ⟨⟩
  simp only [Instr.wf, Bool.and_eq_true, decide_eq_true_eq] at h
  exact ⟨h.2, (pdo_id 2 node h.1).2⟩

theorem tpdo4 (port : Port) (node : BitVec 7) (p : List Byte) : Statement (.tpdo4 port node p) := by
  rintro h f ⟨⟩
  simp only [Instr.wf, Bool.and_eq_true, decide_eq_true_eq] at h
  exact ⟨h.2, (pdo_id 3 node h.1).1⟩

theorem rpdo4 (port : Port) (node : BitVec 7) (p : List Byte) : Statement (.rpdo4 port node p) := by
  rintro h f ⟨⟩
  simp only [Instr.wf, Bool.and_eq_true, decide_eq_true_eq] at h
  exact ⟨h.2, (pdo_id 3 node h.1).2⟩

theorem sdoRsp (port : Port) (node : BitVec 7) (p : List Byte) : Statement (.sdoRsp port node p) := by
  rintro h f ⟨⟩
  simp only [Instr.wf, Bool.and_eq_true] at h
  exact ⟨formlessFits_length _ _ _ h.2, sdoRsp_id node h.1⟩

theorem sdoReq (port : Port) (node : BitVec 7) (p : List Byte) : Statement (.sdoReq port node p) := by
  rintro h f ⟨⟩
  simp only [Instr.wf, Bool.and_eq_true] at h
  exact ⟨formlessFits_length _ _ _ h.2, sdoReq_id node h.1⟩

theorem sdoDlSegReq (port : Port) (node : BitVec 7) (t : Bool) (n : BitVec 3) (c : Bool) (d : Bytes7) :
    Statement (.sdoDlSegReq port node t n c d) := by
  rintro h f ⟨⟩
  exact request_fits port node _ h

theorem sdoDlInitReq (port : Port) (node : BitVec 7) (n : BitVec 2) (e sInd : Bool) (index : BitVec 16) (sub : Byte) (d : Bytes4) :
    Statement (.sdoDlInitReq port node n e sInd index sub d) := by
  rintro h f ⟨⟩
  exact request_fits port node _ h

theorem sdoUlInitReq (port : Port) (node : BitVec 7) (index : BitVec 16) (sub : Byte) :
    Statement (.sdoUlInitReq port node index sub) := by
  rintro h f ⟨⟩
  exact request_fits port node _ h

theorem sdoUlSegReq (port : Port) (node : BitVec 7) (t : Bool) :
    Statement (.sdoUlSegReq port node t) := by
  rintro h f ⟨⟩
  exact request_fits port node _ h

theorem sdoAbortReq (port : Port) (node : BitVec 7) (index : BitVec 16) (sub : Byte) (code : BitVec 32) :
    Statement (.sdoAbortReq port node index sub code) := by
  rintro h f ⟨⟩
  exact request_fits port node _ h

theorem sdoUlSegRsp (port : Port) (node : BitVec 7) (t : Bool) (n : BitVec 3) (c : Bool) (d : Bytes7) :
    Statement (.sdoUlSegRsp port node t n c d) := by
  rintro h f ⟨⟩
  exact response_fits port node _ h

theorem sdoDlSegRsp (port : Port) (node : BitVec 7) (t : Bool) :
    Statement (.sdoDlSegRsp port node t) := by
  rintro h f ⟨⟩
  exact response_fits port node _ h

theorem sdoUlInitRsp (port : Port) (node : BitVec 7) (n : BitVec 2) (e sInd : Bool) (index : BitVec 16) (sub : Byte) (d : Bytes4) :
    Statement (.sdoUlInitRsp port node n e sInd index sub d) := by
  rintro h f ⟨⟩
  exact response_fits port node _ h

theorem sdoDlInitRsp (port : Port) (node : BitVec 7) (index : BitVec 16) (sub : Byte) :
    Statement (.sdoDlInitRsp port node index sub) := by
  rintro h f ⟨⟩
  exact response_fits port node _ h

theorem sdoAbortRsp (port : Port) (node : BitVec 7) (index : BitVec 16) (sub : Byte) (code : BitVec 32) :
    Statement (.sdoAbortRsp port node index sub code) := by
  rintro h f ⟨⟩
  exact response_fits port node _ h

theorem nmtStartRemoteNode (port : Port) (target : BitVec 7) : Statement (.nmtStartRemoteNode port target) := by
  rintro - f ⟨⟩
  exact nmt_fits port _ _

theorem nmtStopRemoteNode (port : Port) (target : BitVec 7) : Statement (.nmtStopRemoteNode port target) := by
  rintro - f ⟨⟩
  exact nmt_fits port _ _

theorem nmtEnterPreOperational (port : Port) (target : BitVec 7) : Statement (.nmtEnterPreOperational port target) := by
  rintro - f ⟨⟩
  exact nmt_fits port _ _

theorem nmtResetNode (port : Port) (target : BitVec 7) : Statement (.nmtResetNode port target) := by
  rintro - f ⟨⟩
  exact nmt_fits port _ _

theorem nmtResetCommunication (port : Port) (target : BitVec 7) : Statement (.nmtResetCommunication port target) := by
  rintro - f ⟨⟩
  exact nmt_fits port _ _

theorem nop : Statement .nop := by
  rintro - f ⟨⟩

theorem send (m : Message) : Statement (.send m) := by
  rintro - f ⟨⟩

theorem sdoRead (node : BitVec 8) (index : BitVec 16) (sub : Byte) : Statement (.sdoRead node index sub) := by
  rintro - f ⟨⟩

theorem sdoWrite (node : BitVec 8) (index : BitVec 16) (sub : Byte) (data : List Byte) : Statement (.sdoWrite node index sub data) := by
  rintro - f ⟨⟩

theorem ack : Statement .ack := by
  rintro - f ⟨⟩

end Sys2Proof.Laws.EncodedFrame
end

