-- ==== Sys2Proof/Tests/Slice0.lean ====
section
/-! SUPPORT. Tests: well-formedness, decoding of words written out from the spec, single steps of the traces of 95_test_vectors.md
(K, F, M, Q, S and H are its vectors), and for every statement with hypotheses a witness that meets them. -/

namespace Sys2Proof.Tests

open Sys2Proof.Machine

/-! ## Small states -/

/-- `BUF_MAX` 64, the configuration of 95_test_vectors.md. -/
def cfg64 : Cfg := { bufMax := 64, localAbortCode := 0x05040001#32, overflowAbortCode := 0x05040005#32 }

/-- `BUF_MAX` 8, the configuration of S34 and S35. -/
def cfg8 : Cfg := { cfg64 with bufMax := 8 }

/-- The smallest configuration R5 allows. -/
def cfg4 : Cfg := { cfg64 with bufMax := 4 }

/-- A state with a record and nothing delivered. -/
def withX (cfg : Cfg) (x : Xfer) : State := { State.resetWith cfg with x := x }

/-- A state with a record and one delivery. -/
def fed (cfg : Cfg) (x : Xfer) (ev : Event) (ok : Bool) : State := { withX cfg x with inputs := [{ ev := ev, txOk := ok }] }

/-- The state a step gives, if it gives one. -/
def nextOf (o : Host.Outcome State Fault Refusal) : Option State :=
  match o with
  | .next s => some s
  | .fault _ => none
  | .refused _ => none

/-- One step under `cfg64`. -/
def after (x : Xfer) (ev : Event) (ok : Bool) : Option State := nextOf (step (fed cfg64 x ev ok))

/-- What the vectors write of a state. -/
structure Seen where
  st : St
  err : ErrKind
  toggle : Bool
  remaining : Nat
  buf : List Byte
  abortCode : Nat
  tx : Option RawFrame
  deriving DecidableEq, Repr

/-- Those values of a state. -/
def seen (s : State) : Seen := ⟨s.x.st, s.x.err, s.x.toggle, s.x.remaining.toNat, s.x.buf, s.x.abortCode.toNat, s.tx⟩

/-- `III#B0 .. B7` of R86, eight bytes. -/
def frame8 (id : BitVec 11) (b0 b1 b2 b3 b4 b5 b6 b7 : Byte) : RawFrame := ⟨id, 8#4, ⟨b0, b1, b2, b3, b4, b5, b6, b7⟩⟩

/-- A frame of fewer bytes, padded with zeros. -/
def short (id : BitVec 11) (dlc : BitVec 4) (b0 b1 b2 b3 : Byte) : RawFrame := ⟨id, dlc, ⟨b0, b1, b2, b3, 0, 0, 0, 0⟩⟩

def ten : List Byte := [0xD0, 0xD1, 0xD2, 0xD3, 0xD4, 0xD5, 0xD6, 0xD7, 0xD8, 0xD9]

/-- S2, first line: an upload of node 5, 0x2000:01, whose initiate is awaited. -/
def upInit : Xfer := { Xfer.x0 with st := .initiating, node := 5#7, index := 0x2000#16, sub := 1#8 }

/-- S1, first line: an expedited download. -/
def downExp : Xfer :=
  { upInit with dir := .download, exp := true, buf := [0xAA, 0xBB], bufLen := 2, total := 2#32, totalValid := true }

/-- S3, first line: a segmented download. -/
def downInit : Xfer :=
  { upInit with dir := .download, buf := ten, bufLen := 10, total := 10#32, totalValid := true, remaining := 10#32 }

/-- S3, second line. -/
def downSeg : Xfer := { downInit with st := .segmenting, remaining := 3#32 }

/-- S3, third line. -/
def downLast : Xfer := { downSeg with remaining := 0#32, toggle := true }

/-- S4, second line. -/
def upSeg : Xfer := { upInit with st := .segmenting, total := 10#32, totalValid := true, remaining := 10#32 }

/-- S4, third line. -/
def upSeg7 : Xfer := { upSeg with buf := ten.take 7, bufLen := 7, remaining := 3#32, toggle := true }

def doneUp : Xfer := { upSeg7 with st := .done, buf := ten, bufLen := 10, remaining := 0#32 }

def doneDown : Xfer := { downExp with st := .done }

def timedOutX : Xfer := { upInit with st := .timedOut, err := .timeout }

def abortedX : Xfer := { upInit with st := .aborted, err := .remoteAbort, abortCode := 0x06020000#32 }

def errorX : Xfer := { upInit with st := .error, err := .transportError }

/-! ## Well-formedness refuses -/

theorem test_wf_message_nodes :
    (Message.heartbeat 0#8 0#8).wf = false ∧ (Message.heartbeat 128#8 0#8).wf = false ∧
    (Message.emcy 0#8 0#16 0#8 ⟨0, 0, 0, 0, 0⟩).wf = false ∧ (Message.emcy 128#8 0#16 0#8 ⟨0, 0, 0, 0, 0⟩).wf = false ∧
    (Message.sdoRequest 0#8 (.uploadSegReq true)).wf = false ∧ (Message.sdoResponse 128#8 (.downloadSegRsp true)).wf = false ∧
    (Message.nmt .resetNode 128#8).wf = false ∧ (Message.nmt .resetNode 127#8).wf = true ∧
    (Message.heartbeat 1#8 0#8).wf = true ∧ (Message.heartbeat 127#8 0#8).wf = true := by decide

theorem test_wf_pdo :
    (Message.pdo 5#8 ⟨0, .tx⟩ []).wf = false ∧ (Message.pdo 5#8 ⟨5, .rx⟩ []).wf = false ∧
    (Message.pdo 0#8 ⟨1, .tx⟩ []).wf = false ∧ (Message.pdo 5#8 ⟨1, .tx⟩ (List.replicate 9 0#8)).wf = false ∧
    (Message.pdo 5#8 ⟨4, .rx⟩ (List.replicate 8 0#8)).wf = true := by decide

theorem test_wf_directions :
    (Message.sdoRequest 5#8 (.downloadSegRsp false)).wf = false ∧ (Message.sdoResponse 5#8 (.uploadSegReq false)).wf = false ∧
    (Message.sdoRequest 5#8 (.abort 0#16 0#8 0#32)).wf = true ∧ (Message.sdoResponse 5#8 (.abort 0#16 0#8 0#32)).wf = true := by
  decide

theorem test_wf_instr_nodes :
    (Instr.emcy .rx 0#7 []).wf = false ∧ (Instr.tpdo1 .rx 0#7 []).wf = false ∧ (Instr.rpdo1 .rx 0#7 []).wf = false ∧
    (Instr.tpdo2 .rx 0#7 []).wf = false ∧ (Instr.rpdo2 .rx 0#7 []).wf = false ∧ (Instr.tpdo3 .rx 0#7 []).wf = false ∧
    (Instr.rpdo3 .rx 0#7 []).wf = false ∧ (Instr.tpdo4 .rx 0#7 []).wf = false ∧ (Instr.rpdo4 .rx 0#7 []).wf = false ∧
    (Instr.sdoRsp .rx 0#7 []).wf = false ∧ (Instr.sdoReq .rx 0#7 []).wf = false ∧ (Instr.heartbeat .rx 0#7 []).wf = false ∧
    (Instr.sdoUlSegReq .rx 0#7 true).wf = false ∧ (Instr.sdoDlSegRsp .pack 0#7 true).wf = false := by decide

theorem test_wf_instr_payloads :
    (Instr.emcy .rx 5#7 (List.replicate 9 0#8)).wf = false ∧ (Instr.emcy .pack 5#7 (List.replicate 7 0#8)).wf = false ∧
    (Instr.tpdo1 .parse 5#7 (List.replicate 9 0#8)).wf = false ∧ (Instr.sync .pack [0#8]).wf = false ∧
    (Instr.heartbeat .pack 5#7 [0#8, 0#8]).wf = false ∧ (Instr.heartbeat .rx 5#7 []).wf = true := by decide

theorem test_wf_instr_formless :
    (Instr.nmt .rx [0x01, 0x00]).wf = false ∧ (Instr.nmt .pack [0x03, 0x00]).wf = false ∧ (Instr.nmt .rx [0x03, 0x00]).wf = true ∧
    (Instr.sdoRsp .rx 5#7 [0x60, 0, 0, 0, 0, 0, 0, 0]).wf = false ∧ (Instr.sdoReq .pack 5#7 []).wf = false ∧
    (Instr.sdoRsp .parse 5#7 [0xA0, 0, 0, 0, 0, 0, 0, 0]).wf = true ∧
    (Instr.sdoReq .rx 5#7 [0x40, 0x18, 0x10, 0x02]).wf = true := by decide

/-! ## Decoding written-out words: identifier rows (K, F) -/

theorem test_decode_nmt : decodeEvent (.rx (short 0x000#11 2#4 0x03 0x00 0 0)) = .instr (.nmt .rx [0x03, 0x00]) := by decide

theorem test_decode_sync : decodeEvent (.parse (short 0x080#11 0#4 0 0 0 0)) = .instr (.sync .parse []) := by decide

theorem test_decode_emcy :
    decodeEvent (.rx (frame8 0x081#11 0x10 0x81 0x11 0 0 0 0 0)) = .instr (.emcy .rx 1#7 [0x10, 0x81, 0x11, 0, 0, 0, 0, 0]) ∧
    decodeEvent (.parse (short 0x0FF#11 1#4 0x10 0 0 0)) = .instr (.emcy .parse 127#7 [0x10]) := by decide

theorem test_decode_pdo1 :
    decodeEvent (.rx (short 0x185#11 2#4 0xDE 0xAD 0 0)) = .instr (.tpdo1 .rx 5#7 [0xDE, 0xAD]) ∧
    decodeEvent (.rx (short 0x205#11 2#4 0xDE 0xAD 0 0)) = .instr (.rpdo1 .rx 5#7 [0xDE, 0xAD]) := by decide

theorem test_decode_pdo2 :
    decodeEvent (.rx (short 0x285#11 0#4 0 0 0 0)) = .instr (.tpdo2 .rx 5#7 []) ∧
    decodeEvent (.rx (short 0x305#11 1#4 0x55 0 0 0)) = .instr (.rpdo2 .rx 5#7 [0x55]) := by decide

theorem test_decode_pdo3 :
    decodeEvent (.rx (short 0x385#11 1#4 0x55 0 0 0)) = .instr (.tpdo3 .rx 5#7 [0x55]) ∧
    decodeEvent (.rx (short 0x405#11 1#4 0x55 0 0 0)) = .instr (.rpdo3 .rx 5#7 [0x55]) := by decide

theorem test_decode_pdo4 :
    decodeEvent (.pack (.pdo 3#8 ⟨4, .tx⟩ [1, 2, 3, 4, 5, 6, 7, 8])) = .instr (.tpdo4 .pack 3#7 [1, 2, 3, 4, 5, 6, 7, 8]) ∧
    decodeEvent (.rx (short 0x57F#11 1#4 0x55 0 0 0)) = .instr (.rpdo4 .rx 127#7 [0x55]) := by decide

theorem test_decode_sdoRsp_sdoReq :
    decodeEvent (.rx (frame8 0x5FF#11 0xA0 0 0 0 0 0 0 0)) = .instr (.sdoRsp .rx 127#7 [0xA0, 0, 0, 0, 0, 0, 0, 0]) ∧
    decodeEvent (.rx (short 0x601#11 4#4 0x40 0x18 0x10 0x02)) = .instr (.sdoReq .rx 1#7 [0x40, 0x18, 0x10, 0x02]) := by decide

theorem test_decode_heartbeat :
    decodeEvent (.rx ⟨0x705#11, 1#4, ⟨0x7F, 0x99, 0x99, 0x99, 0x99, 0x99, 0x99, 0x99⟩⟩) =
      .instr (.heartbeat .rx 5#7 [0x7F]) := by decide

theorem test_decode_refuses :
    decodeEvent (.rx (short 0x100#11 15#4 0 0 0 0)) = .badFrame .rx .malformedPayload ∧
    decodeEvent (.rx (short 0x605#11 9#4 0 0 0 0)) = .badFrame .rx .malformedPayload ∧
    decodeEvent (.rx (short 0x100#11 1#4 0 0 0 0)) = .badFrame .rx .unknownFunctionCode ∧
    decodeEvent (.parse (short 0x7E5#11 1#4 0 0 0 0)) = .badFrame .parse .unknownFunctionCode ∧
    decodeEvent (.cmd (cmdWord 5#3)) = .badCommand 5#3 ∧
    decodeEvent (.pack (.heartbeat 0#8 0#8)) = .badMessage (.heartbeat 0#8 0#8) := by decide

/-- The whole of R146's table at the ends of its ranges (K18 to K28). -/
theorem test_unrecognized_ends :
    ([0x001, 0x07F, 0x100, 0x17F, 0x180, 0x580, 0x600, 0x680, 0x6FF, 0x700, 0x780, 0x7E5, 0x7FF].all fun n =>
      classify (BitVec.ofNat 11 n) = .error .unknownFunctionCode) = true ∧
    ([0x000, 0x080, 0x081, 0x0FF, 0x181, 0x1FF, 0x57F, 0x581, 0x5FF, 0x601, 0x67F, 0x701, 0x77F].all fun n =>
      (classify (BitVec.ofNat 11 n)).isOk) = true := by decide

/-! ## Decoding written-out words: SDO request forms (Q1 to Q12) -/

theorem test_decode_sdoDlInitReq :
    decodeEvent (.rx (frame8 0x605#11 0x2B 0x00 0x20 0x01 0xAA 0xBB 0x00 0x00)) =
      .instr (.sdoDlInitReq .rx 5#7 2#2 true true 0x2000#16 1#8 ⟨0xAA, 0xBB, 0, 0⟩) ∧
    decodeEvent (.rx (frame8 0x605#11 0x21 0x17 0x10 0x00 0x2C 0x01 0x00 0x00)) =
      .instr (.sdoDlInitReq .rx 5#7 0#2 false true 0x1017#16 0#8 ⟨0x2C, 0x01, 0, 0⟩) := by decide

theorem test_decode_sdoUlInitReq :
    decodeEvent (.parse (frame8 0x605#11 0x40 0x18 0x10 0x02 0 0 0 0)) =
      .instr (.sdoUlInitReq .parse 5#7 0x1018#16 2#8) := by decide

theorem test_decode_sdoDlSegReq :
    decodeEvent (.rx (frame8 0x605#11 0x19 0xD7 0xD8 0xD9 0 0 0 0)) =
      .instr (.sdoDlSegReq .rx 5#7 true 4#3 true ⟨0xD7, 0xD8, 0xD9, 0, 0, 0, 0⟩) ∧
    decodeEvent (.rx (frame8 0x605#11 0x11 8 9 10 11 12 13 14)) =
      .instr (.sdoDlSegReq .rx 5#7 true 0#3 true ⟨8, 9, 10, 11, 12, 13, 14⟩) := by decide

theorem test_decode_sdoUlSegReq :
    decodeEvent (.rx (frame8 0x605#11 0x60 0 0 0 0 0 0 0)) = .instr (.sdoUlSegReq .rx 5#7 false) ∧
    decodeEvent (.rx (frame8 0x605#11 0x70 0 0 0 0 0 0 0)) = .instr (.sdoUlSegReq .rx 5#7 true) := by decide

theorem test_decode_sdoAbortReq :
    decodeEvent (.rx (frame8 0x605#11 0x80 0x00 0x20 0x01 0x01 0x00 0x04 0x05)) =
      .instr (.sdoAbortReq .rx 5#7 0x2000#16 1#8 0x05040001#32) := by decide

/-! ## Decoding written-out words: SDO response forms (Q13 to Q22, Q26 to Q30) -/

theorem test_decode_sdoDlInitRsp :
    decodeEvent (.rx (frame8 0x585#11 0x60 0x00 0x20 0x01 0 0 0 0)) = .instr (.sdoDlInitRsp .rx 5#7 0x2000#16 1#8) ∧
    decodeEvent (.rx (frame8 0x585#11 0x7F 0x00 0x20 0x01 0 0 0 0)) = .instr (.sdoDlInitRsp .rx 5#7 0x2000#16 1#8) := by decide

theorem test_decode_sdoUlInitRsp :
    decodeEvent (.rx (frame8 0x585#11 0x4F 0x00 0x20 0x01 0x2A 0 0 0)) =
      .instr (.sdoUlInitRsp .rx 5#7 3#2 true true 0x2000#16 1#8 ⟨0x2A, 0, 0, 0⟩) ∧
    decodeEvent (.rx (frame8 0x585#11 0x53 0x00 0x20 0x01 0x78 0x56 0x34 0x12)) =
      .instr (.sdoUlInitRsp .rx 5#7 0#2 true true 0x2000#16 1#8 ⟨0x78, 0x56, 0x34, 0x12⟩) := by decide

theorem test_decode_sdoDlSegRsp :
    decodeEvent (.rx (frame8 0x585#11 0x30 0 0 0 0 0 0 0)) = .instr (.sdoDlSegRsp .rx 5#7 true) ∧
    decodeEvent (.rx (frame8 0x585#11 0x2F 0x11 0x22 0x33 0x44 0x55 0x66 0x77)) = .instr (.sdoDlSegRsp .rx 5#7 false) := by decide

theorem test_decode_sdoUlSegRsp :
    decodeEvent (.rx (frame8 0x585#11 0x0F 0 0 0 0 0 0 0)) =
      .instr (.sdoUlSegRsp .rx 5#7 false 7#3 true ⟨0, 0, 0, 0, 0, 0, 0⟩) ∧
    decodeEvent (.rx (frame8 0x585#11 0x06 1 2 3 4 5 6 7)) =
      .instr (.sdoUlSegRsp .rx 5#7 false 3#3 false ⟨1, 2, 3, 4, 5, 6, 7⟩) := by decide

theorem test_decode_sdoAbortRsp :
    decodeEvent (.rx (frame8 0x585#11 0x80 0x00 0x20 0x01 0x00 0x00 0x02 0x06)) =
      .instr (.sdoAbortRsp .rx 5#7 0x2000#16 1#8 0x06020000#32) := by decide

theorem test_lengths :
    (expLen 0#2 true, expLen 1#2 true, expLen 2#2 true, expLen 3#2 true, expLen 3#2 false) = (4, 3, 2, 1, 4) ∧
    (segLen 0#3 true, segLen 4#3 true, segLen 7#3 true, segLen 3#3 false) = (7, 3, 0, 7) := by decide

/-! ## Decoding written-out words: NMT functions (M1 to M10) and host commands (R85) -/

theorem test_decode_nmtStart :
    decodeEvent (.rx (short 0x000#11 2#4 0x01 0x00 0 0)) = .instr (.nmtStartRemoteNode .rx 0#7) ∧
    decodeEvent (.rx (short 0x000#11 4#4 0x01 0x00 0xAA 0xBB)) = .instr (.nmtStartRemoteNode .rx 0#7) := by decide

theorem test_decode_nmtStop : decodeEvent (.rx (short 0x000#11 2#4 0x02 0x05 0 0)) = .instr (.nmtStopRemoteNode .rx 5#7) := by
  decide

theorem test_decode_nmtPreOp :
    decodeEvent (.rx (short 0x000#11 2#4 0x80 0x7F 0 0)) = .instr (.nmtEnterPreOperational .rx 127#7) := by decide

theorem test_decode_nmtResetNode : decodeEvent (.rx (short 0x000#11 2#4 0x81 0x05 0 0)) = .instr (.nmtResetNode .rx 5#7) := by
  decide

theorem test_decode_nmtResetComm :
    decodeEvent (.pack (.nmt .resetCommunication 0#8)) = .instr (.nmtResetCommunication .pack 0#7) ∧
    decodeEvent (.rx (short 0x000#11 2#4 0x82 0x00 0 0)) = .instr (.nmtResetCommunication .rx 0#7) := by decide

theorem test_decode_commands :
    decodeEvent (.cmd (cmdWord 0#3)) = .instr .nop ∧ decodeEvent (.cmd (cmdWord 1#3)) = .instr (.send .sync) ∧
    decodeEvent (.cmd ⟨2#3, 5#8, 0x2000#16, 1#8, [], .sync⟩) = .instr (.sdoRead 5#8 0x2000#16 1#8) ∧
    decodeEvent (.cmd ⟨3#3, 5#8, 0x2000#16, 1#8, [0xAA], .sync⟩) = .instr (.sdoWrite 5#8 0x2000#16 1#8 [0xAA]) ∧
    decodeEvent (.cmd (cmdWord 4#3)) = .instr .ack := by decide

theorem test_table_words :
    decodeTableWord 16 0x080 = some (.sync .rx []) ∧ decodeTableWord 16 0x781 = none ∧
    decodeTableWord 16 0x705 = some (.heartbeat .rx 5#7 []) ∧ decodeTableWord 8 0x04 = some .ack ∧
    decodeTableWord 8 0x81 = some (.nmtResetNode .rx 0#7) ∧
    decodeTableWord 8 0x60 = some (.sdoDlInitRsp .rx 1#7 0#16 0#8) ∧ decodeTableWord 8 0x07 = none := by decide

theorem test_table_word_runs :
    nextOf (step (State.reset.withFetchWord 8 0x04)) = nextOf (exec .ack State.reset) := by decide

/-! ## Encoding (F10, F13, M1, M3, Q9) -/

theorem test_encode_frames :
    (Message.emcy 127#8 0x1234#16 0xFF#8 ⟨1, 2, 3, 4, 5⟩).encode = frame8 0x0FF#11 0x34 0x12 0xFF 1 2 3 4 5 ∧
    (Message.pdo 3#8 ⟨4, .tx⟩ [1, 2, 3, 4, 5, 6, 7, 8]).encode = frame8 0x483#11 1 2 3 4 5 6 7 8 ∧
    build .startRemoteNode 0#7 = short 0x000#11 2#4 0x01 0x00 0 0 ∧
    build .enterPreOperational 127#7 = short 0x000#11 2#4 0x80 0x7F 0 0 ∧
    (Message.sdoRequest 5#8 (.downloadSegReq true 4#3 true ⟨0xD7, 0xD8, 0xD9, 0, 0, 0, 0⟩)).encode =
      frame8 0x605#11 0x19 0xD7 0xD8 0xD9 0 0 0 0 := by decide

theorem test_cob_ids : cobIdOf (.pdo ⟨3, .rx⟩) 9#7 = 0x409#11 ∧ cobIdOf .sdoReq 0x7F#7 = 0x67F#11 := by decide

/-! ## Single steps: commands -/

theorem test_step_write_segmented :
    (after .x0 (.cmd ⟨3#3, 5#8, 0x2000#16, 1#8, ten, .sync⟩) true).map (fun t => (t.x, t.tx, t.resp)) =
      some (downInit, some (frame8 0x605#11 0x21 0x00 0x20 0x01 0x0A 0 0 0), some .accepted) := by decide

theorem test_step_write_three :
    (after .x0 (.cmd ⟨3#3, 5#8, 0x2000#16, 1#8, [1, 2, 3], .sync⟩) true).map (fun t => (t.x.exp, t.x.remaining, t.tx)) =
      some (true, 0#32, some (frame8 0x605#11 0x27 0x00 0x20 0x01 1 2 3 0)) := by decide

theorem test_step_read_fails :
    (after .x0 (.cmd ⟨2#3, 5#8, 0x2000#16, 1#8, [], .sync⟩) false).map (fun t => (t.x, t.tx, t.resp)) =
      some (errorX, some (frame8 0x605#11 0x40 0x00 0x20 0x01 0 0 0 0), some .accepted) := by decide

theorem test_step_refusals :
    (after .x0 (.cmd ⟨2#3, 0#8, 0x2000#16, 1#8, [], .sync⟩) true).map (·.resp) = some (some (.refused .badNode)) ∧
    (after .x0 (.cmd ⟨3#3, 0#8, 0x2000#16, 1#8, [], .sync⟩) true).map (·.resp) = some (some (.refused .badNode)) ∧
    (after .x0 (.cmd ⟨3#3, 5#8, 0x2000#16, 1#8, List.replicate 65 0#8, .sync⟩) true).map (·.resp) =
      some (some (.refused .badLength)) ∧
    (after doneUp (.cmd ⟨3#3, 5#8, 0x2000#16, 1#8, [0xAA], .sync⟩) true).map (·.resp) = some (some (.refused .notIdle)) ∧
    (after upInit (.cmd (cmdWord 7#3)) true).map (·.resp) = some (some (.refused .badCommand)) ∧
    (after .x0 (.cmd (cmdWord 4#3)) true).map (·.resp) = some (some (.refused .nothingToAck)) := by decide

theorem test_step_send :
    (after timedOutX (.cmd (cmdWord 1#3)) true).map (fun t => (t.x, t.tx, t.resp)) =
      some (timedOutX, some (short 0x080#11 0#4 0 0 0 0), some .accepted) ∧
    (after upSeg (.cmd (cmdWord 1#3)) true).map (fun t => (t.tx, t.resp)) = some (none, some (.refused .busy)) := by decide

theorem test_step_send_fails :
    (after .x0 (.cmd (cmdWord 1#3)) false).map (fun t => (t.x, t.resp)) = some (.x0, some .failedTransportError) ∧
    (after .x0 (.cmd { cmdWord 1#3 with msg := .nmt .startRemoteNode 128#8 }) true).map (·.resp) =
      some (some (.refused .badMessage)) := by decide

theorem test_step_ack_nop :
    (after timedOutX (.cmd (cmdWord 4#3)) true).map (fun t => (t.x, t.resp)) = some (.x0, some .accepted) ∧
    (after upSeg (.cmd (cmdWord 0#3)) true).map (fun t => (t.x, t.resp)) = some (upSeg, some .accepted) := by decide

/-! ## Single steps: responses (S1 to S35) -/

theorem test_step_first_segment :
    (after downInit (.rx (frame8 0x585#11 0x60 0x00 0x20 0x01 0 0 0 0)) true).map (fun t => (t.x, t.tx)) =
      some (downSeg, some (frame8 0x605#11 0x00 0xD0 0xD1 0xD2 0xD3 0xD4 0xD5 0xD6)) := by decide

theorem test_step_last_segment :
    (after downSeg (.rx (frame8 0x585#11 0x20 0 0 0 0 0 0 0)) true).map (fun t => (t.x, t.tx)) =
      some (downLast, some (frame8 0x605#11 0x19 0xD7 0xD8 0xD9 0 0 0 0)) := by decide

theorem test_step_write_done :
    (after downLast (.rx (frame8 0x585#11 0x30 0 0 0 0 0 0 0)) true).map (fun t => (t.x.st, t.tx)) = some (.done, none) := by
  decide

theorem test_step_read_starts :
    (after upInit (.rx (frame8 0x585#11 0x41 0x00 0x20 0x01 0x0A 0 0 0)) true).map (fun t => (t.x, t.tx)) =
      some (upSeg, some (frame8 0x605#11 0x60 0 0 0 0 0 0 0)) := by decide

theorem test_step_read_goes_on :
    (after upSeg (.rx (frame8 0x585#11 0x00 0xD0 0xD1 0xD2 0xD3 0xD4 0xD5 0xD6)) true).map (fun t => (t.x, t.tx)) =
      some (upSeg7, some (frame8 0x605#11 0x70 0 0 0 0 0 0 0)) := by decide

theorem test_step_read_done :
    (after upSeg7 (.rx (frame8 0x585#11 0x19 0xD7 0xD8 0xD9 0 0 0 0)) true).map (fun t => (t.x, t.tx)) = some (doneUp, none) := by
  decide

theorem test_step_expedited :
    (after upInit (.rx (frame8 0x585#11 0x4F 0x00 0x20 0x01 0x2A 0x99 0x99 0x99)) true).map
      (fun t => (t.x.st, t.x.total.toNat, t.x.buf)) = some (.done, 1, [0x2A]) := by decide

theorem test_step_remote_abort :
    (after upInit (.rx (frame8 0x585#11 0x80 0x34 0x12 0x07 0x11 0x00 0x09 0x06)) true).map seen =
      some ⟨.aborted, .remoteAbort, false, 0, [], 0x06090011, none⟩ := by decide

theorem test_step_local_abort :
    (after downExp (.rx (frame8 0x585#11 0x60 0x00 0x20 0x02 0 0 0 0)) true).map seen =
      some ⟨.aborted, .unexpectedResponse, false, 0, [0xAA, 0xBB], 0x05040001,
        some (frame8 0x605#11 0x80 0x00 0x20 0x01 0x01 0x00 0x04 0x05)⟩ := by decide

theorem test_step_local_abort_fails :
    (after downExp (.rx (frame8 0x585#11 0x20 0 0 0 0 0 0 0)) false).map seen =
      some ⟨.error, .transportError, false, 0, [0xAA, 0xBB], 0,
        some (frame8 0x605#11 0x80 0x00 0x20 0x01 0x01 0x00 0x04 0x05)⟩ := by decide

theorem test_step_toggle_mismatch :
    (after upSeg (.rx (frame8 0x585#11 0x10 0xD0 0xD1 0xD2 0xD3 0xD4 0xD5 0xD6)) true).map seen =
      some ⟨.error, .toggleMismatch, false, 10, [], 0, none⟩ := by decide

theorem test_step_overflow :
    (nextOf (step (fed cfg8 upSeg7 (.rx (frame8 0x585#11 0x19 0xD7 0xD8 0xD9 0 0 0 0)) true))).map seen =
      some ⟨.aborted, .bufferOverflow, true, 3, ten.take 7, 0x05040005,
        some (frame8 0x605#11 0x80 0x00 0x20 0x01 0x05 0x00 0x04 0x05)⟩ := by decide

theorem test_step_exact_fit :
    (nextOf (step (fed cfg8 upSeg7 (.rx (frame8 0x585#11 0x1D 0xD7 0 0 0 0 0 0)) true))).map (fun t => (t.x.st, t.x.bufLen)) =
      some (.done, 8) := by decide

theorem test_step_foreign :
    (after upInit (.rx (short 0x703#11 1#4 0x05 0 0 0)) true).map (·.x.err) = some .unexpectedResponse ∧
    (after downExp (.rx (frame8 0x586#11 0x60 0x00 0x20 0x01 0 0 0 0)) true).map (·.x.err) = some .unexpectedResponse ∧
    (after upInit (.rx (frame8 0x605#11 0x40 0x00 0x20 0x01 0 0 0 0)) true).map (·.x.err) = some .unexpectedResponse ∧
    (after upInit (.rx (short 0x585#11 4#4 0x43 0x00 0x20 0x01)) true).map (·.x.err) = some .classMalformedPayload ∧
    (after upInit (.rx (frame8 0x586#11 0xA0 0 0 0 0 0 0 0)) true).map (·.x.err) = some .classMalformedPayload ∧
    (after upInit (.rx (short 0x100#11 1#4 0 0 0 0)) true).map (·.x.err) = some .classUnknownFunctionCode := by decide

theorem test_step_timeout :
    (after upInit .timeout true).map (·.x) = some timedOutX ∧ (after upInit .rxIoError true).map (·.x) = some errorX ∧
    (after .x0 .timeout true).map (·.x) = some .x0 ∧ (after doneUp .rxIoError true).map (·.x) = some doneUp ∧
    (after .x0 (.rx (frame8 0x585#11 0x60 0x00 0x20 0x01 0 0 0 0)) true).map (·.x) = some .x0 := by decide

theorem test_step_no_event : step State.reset = .fault .noEvent := rfl

/-! ## Single steps: the codec ports -/

theorem test_step_parse :
    (after upSeg (.parse (frame8 0x085#11 0x10 0x81 0x11 0 0 0 0 0)) true).map (fun t => (t.x, t.parseOut)) =
      some (upSeg, some (.ok (.emcy 5#8 0x8110#16 0x11#8 ⟨0, 0, 0, 0, 0⟩))) ∧
    (after .x0 (.parse (short 0x000#11 2#4 0x01 0x80 0 0)) true).map (·.parseOut) = some (some (.err .malformedPayload)) ∧
    (after .x0 (.parse (short 0x705#11 2#4 0x85 0x01 0 0)) true).map (·.parseOut) = some (some (.ok (.heartbeat 5#8 0x85#8))) := by
  decide

theorem test_step_pack :
    (after .x0 (.pack (.nmt .resetNode 5#8)) true).map (·.packOut) =
      some (some (.frame (short 0x000#11 2#4 0x81 0x05 0 0))) ∧
    (after .x0 (.pack (.nmt .resetNode 128#8)) true).map (·.packOut) = some (some .refused) := by decide

theorem test_status_port :
    (statusReg downSeg 0, statusReg downSeg 1, statusReg downSeg 9, statusReg downSeg 10, statusReg downSeg 11) =
      (some 2, some 1, some 3, none, some 10) ∧ St.ofCode 7 = none ∧ ErrKind.ofCode 9 = none := by decide

/-! ## Witnesses: concrete values that meet the hypotheses of a statement, clause by clause -/

/-- An upload initiate response frame of node 5 that carries `AA BB`, and an abort, an acknowledgement, a segment. -/
def rspExp : RawFrame := frame8 0x585#11 0x4B 0x00 0x20 0x01 0xAA 0xBB 0 0

def rspAbort : RawFrame := frame8 0x585#11 0x80 0x00 0x20 0x01 0x00 0x00 0x02 0x06

def rspAck : RawFrame := frame8 0x585#11 0x60 0x00 0x20 0x01 0 0 0 0

def rspSeg : RawFrame := frame8 0x585#11 0x00 0xD0 0xD1 0xD2 0xD3 0xD4 0xD5 0xD6

def readCmd : RawCmd := ⟨2#3, 5#8, 0x2000#16, 1#8, [], .sync⟩

def writeCmd : RawCmd := ⟨3#3, 5#8, 0x2000#16, 1#8, ten, .sync⟩

theorem witness_ClassifyInvertsCobId :
    1#7 ≠ 0#7 ∧ 127#7 ≠ 0#7 ∧ (1 ≤ (PdoSlot.mk 1 .tx).num ∧ (PdoSlot.mk 1 .tx).num ≤ 4) ∧
    (1 ≤ (PdoSlot.mk 4 .rx).num ∧ (PdoSlot.mk 4 .rx).num ≤ 4) ∧ classify 0x000#11 = .ok (.nmt, 0#7) ∧
    classify 0x080#11 = .ok (.sync, 0#7) ∧ classify 0x77F#11 = .ok (.heartbeat, 127#7) := by decide

theorem witness_ParseUndoesPack :
    (CanFrame.mk 0x7FF#11 []).payload.length ≤ 8 ∧ (CanFrame.mk 0x000#11 (List.replicate 8 0xFF#8)).payload.length ≤ 8 := by
  decide

theorem witness_MessageRoundTrip :
    (Message.heartbeat 1#8 0x7F#8).wf = true ∧ (Message.nmt .resetNode 127#8).wf = true ∧
    decodeMessage (short 0x705#11 2#4 0x85 0x01 0 0) = .ok (.heartbeat 5#8 0x85#8) ∧
    decodeMessage (short 0x705#11 1#4 0x85 0 0 0) = .ok (.heartbeat 5#8 0x85#8) := by decide

theorem witness_SdoCodecRoundTrip :
    (SdoCommand.abort 0#16 0#8 0#32).isRequest = true ∧ (SdoCommand.uploadSegReq true).isRequest = true ∧
    (SdoCommand.abort 0#16 0#8 0#32).isResponse = true ∧ (SdoCommand.downloadSegRsp true).isResponse = true ∧
    [0x60#8, 0#8, 0#8, 0#8, 0#8, 0#8, 0#8, 0#8].length = 8 ∧
    decodeSdoReq [0x60, 0, 0, 0, 0, 0, 0, 0] = .ok (.uploadSegReq false) ∧
    decodeSdoReq [0x6F, 1, 2, 3, 4, 5, 6, 7] = .ok (.uploadSegReq false) ∧
    decodeSdoRsp [0x20, 0, 0, 0, 0, 0, 0, 0] = .ok (.downloadSegRsp false) ∧
    decodeSdoRsp [0x2F, 0x11, 0x22, 0x33, 0x44, 0x55, 0x66, 0x77] = .ok (.downloadSegRsp false) := by decide

theorem witness_InstructionRoundTrip :
    (Instr.nmt .parse []).wf = true ∧ (Instr.tpdo1 .pack 127#7 (List.replicate 8 0xFF#8)).wf = true ∧
    (Instr.sdoUlSegRsp .rx 1#7 true 7#3 true ⟨0, 0, 0, 0, 0, 0, 0xFF⟩).wf = true ∧
    (Instr.sdoWrite 0xFF#8 0xFFFF#16 0xFF#8 ten).wf = true := by decide

theorem witness_DecodedIsWellFormed :
    decodeEvent (.rx rspAck) = .instr (.sdoDlInitRsp .rx 5#7 0x2000#16 1#8) ∧
    decodeMessage rspAck = .ok (.sdoResponse 5#8 (.initDownloadRsp 0x2000#16 1#8)) := by decide

theorem witness_BytesBeyondLengthUnread :
    (Bytes8.mk 1 2 3 4 5 6 7 8).toList.take (0#4).toNat = (Bytes8.mk 9 9 9 9 9 9 9 9).toList.take (0#4).toNat ∧
    (Bytes8.mk 1 2 3 4 5 6 7 8).toList.take (7#4).toNat = (Bytes8.mk 1 2 3 4 5 6 7 9).toList.take (7#4).toNat ∧
    (Bytes8.mk 1 2 3 4 5 6 7 8).toList.take (15#4).toNat = (Bytes8.mk 1 2 3 4 5 6 7 8).toList.take (15#4).toNat := by decide

theorem witness_ReservedSpecifiersAreMalformed :
    [0xA0#8, 0#8, 0#8, 0#8, 0#8, 0#8, 0#8, 0#8].length = 8 ∧
    5 ≤ (([0xA0#8, 0#8, 0#8, 0#8, 0#8, 0#8, 0#8, 0#8].getD 0 0#8).extractLsb' 5 3).toNat ∧
    5 ≤ (([0xFF#8, 0#8, 0#8, 0#8, 0#8, 0#8, 0#8, 0#8].getD 0 0#8).extractLsb' 5 3).toNat ∧
    (withX cfg64 upInit).x.Waits ∧ (withX cfg64 downSeg).x.Waits := by decide

theorem witness_StepRunsDecoded :
    (fed cfg64 upInit (.rx rspAck) true).inputs = { ev := .rx rspAck, txOk := true } :: [] ∧
    decodeEvent (.rx rspAck) = .instr (.sdoDlInitRsp .rx 5#7 0x2000#16 1#8) := by decide

theorem witness_inv_idle : (fed cfg4 .x0 (.cmd readCmd) true).Inv := ⟨by decide, by constructor <;> decide⟩

theorem witness_inv_upInit : (fed cfg64 upInit .timeout true).Inv := ⟨by decide, by constructor <;> decide⟩

theorem witness_inv_downExp : (fed cfg4 downExp (.rx rspAck) true).Inv := ⟨by decide, by constructor <;> decide⟩

theorem witness_inv_downInit : (fed cfg64 downInit (.rx rspAck) false).Inv := ⟨by decide, by constructor <;> decide⟩

theorem witness_inv_downSeg : (withX cfg64 downSeg).Inv := ⟨by decide, by constructor <;> decide⟩

theorem witness_inv_downLast : (withX cfg64 downLast).Inv := ⟨by decide, by constructor <;> decide⟩

theorem witness_inv_upSeg : (fed cfg8 upSeg (.rx rspSeg) true).Inv := ⟨by decide, by constructor <;> decide⟩

theorem witness_inv_upSeg7 : (withX cfg8 upSeg7).Inv := ⟨by decide, by constructor <;> decide⟩

theorem witness_inv_doneUp : (fed cfg64 doneUp (.cmd (cmdWord 4#3)) true).Inv := ⟨by decide, by constructor <;> decide⟩

theorem witness_inv_timedOut : (withX cfg64 timedOutX).Inv := ⟨by decide, by constructor <;> decide⟩

theorem witness_inv_aborted : (fed cfg64 abortedX .reset true).Inv := ⟨by decide, by constructor <;> decide⟩

theorem witness_inv_error : (withX cfg64 errorX).Inv := ⟨by decide, by constructor <;> decide⟩

theorem witness_records_downInit : downInit.Records cfg64 := by constructor <;> decide

theorem witness_records_upSeg : upSeg.Records cfg8 := by constructor <;> decide

theorem witness_records_aborted : abortedX.Records cfg64 := by constructor <;> decide

theorem witness_StepAnswersEveryEvent :
    State.reset.inputs = [] ∧ (fed cfg64 upInit .timeout true).Inv ∧ (fed cfg64 upInit .timeout true).inputs ≠ [] :=
  ⟨rfl, witness_inv_upInit, by decide⟩

/-- The four events of R190, each with a reference step. -/
theorem witness_StepIsTheSpecsStep :
    (fed cfg4 .x0 (.cmd readCmd) true).Inv ∧ (∃ r, Ref.step cfg4 .x0 (.cmd readCmd) true = some r) ∧
    (∃ r, Ref.step cfg8 upSeg (.rx rspSeg) true = some r) ∧ (∃ r, Ref.step cfg64 upInit .timeout true = some r) ∧
    (∃ r, Ref.step cfg64 upInit .rxIoError false = some r) :=
  ⟨witness_inv_idle, ⟨_, rfl⟩, ⟨_, rfl⟩, ⟨_, rfl⟩, ⟨_, rfl⟩⟩

/-- The smallest and the largest `BUF_MAX` of R5. -/
theorem witness_InvariantAtReset : cfg4.WF ∧ ({ cfg64 with bufMax := 4294967295 } : Cfg).WF := by decide

theorem witness_StepKeepsInvariant :
    (fed cfg64 downInit (.rx rspAck) false).Inv ∧ (∃ t, step (fed cfg64 downInit (.rx rspAck) false) = .next t) ∧
    (fed cfg8 upSeg (.rx rspSeg) true).Inv ∧ (∃ t, step (fed cfg8 upSeg (.rx rspSeg) true) = .next t) :=
  ⟨witness_inv_downInit, ⟨_, rfl⟩, witness_inv_upSeg, ⟨_, rfl⟩⟩

theorem witness_StepKeepsRecords :
    (fed cfg8 upSeg (.rx rspSeg) true).Inv ∧ (fed cfg8 upSeg (.rx rspSeg) true).x.Records cfg8 ∧
    (∃ t, step (fed cfg8 upSeg (.rx rspSeg) true) = .next t) :=
  ⟨witness_inv_upSeg, witness_records_upSeg, ⟨_, rfl⟩⟩

theorem witness_StepConsumesOneEvent : ∃ t, step (fed cfg64 .x0 .timeout true) = .next t := ⟨_, rfl⟩

theorem witness_TransferIdentityKept :
    (∃ t, step (fed cfg64 upSeg (.rx rspSeg) true) = .next t ∧ upSeg.st ≠ .idle ∧ t.x ≠ .x0) ∧
    (∃ t, step (fed cfg64 downInit (.rx rspAck) true) = .next t ∧ downInit.st ≠ .idle ∧ t.x ≠ .x0 ∧ downInit.dir = .download) :=
  ⟨⟨_, rfl, by decide, by decide⟩, ⟨_, rfl, by decide, by decide, rfl⟩⟩

theorem witness_TransferLifetime :
    (∃ t, step (fed cfg4 .x0 (.cmd readCmd) true) = .next t ∧ (fed cfg4 .x0 (.cmd readCmd) true).Inv ∧ t.x ≠ .x0) ∧
    (∃ t, step (fed cfg64 .x0 (.cmd writeCmd) true) = .next t ∧ t.x ≠ .x0) ∧
    (∃ t, step (fed cfg64 doneUp (.cmd (cmdWord 4#3)) true) = .next t ∧ (fed cfg64 doneUp (.cmd (cmdWord 4#3)) true).Inv ∧
      doneUp ≠ .x0 ∧ t.x = .x0) ∧
    (∃ t, step (fed cfg64 abortedX .reset true) = .next t ∧ (fed cfg64 abortedX .reset true).Inv ∧ abortedX ≠ .x0 ∧ t.x = .x0) :=
  ⟨⟨_, rfl, witness_inv_idle, by decide⟩, ⟨_, rfl, by decide⟩, ⟨_, rfl, witness_inv_doneUp, by decide, rfl⟩,
    ⟨_, rfl, witness_inv_aborted, by decide, rfl⟩⟩

theorem witness_CompletionAndNoRetry :
    (∃ t, step (fed cfg64 upInit (.rx rspExp) true) = .next t ∧ upInit.st ≠ .done ∧ t.x.st = .done) ∧
    (∃ t, step (fed cfg4 downExp (.rx rspAck) true) = .next t ∧ downExp.st ≠ .done ∧ t.x.st = .done) ∧
    (∃ t, step (fed cfg64 doneUp (.rx rspAck) true) = .next t ∧ doneUp.terminal = true) ∧
    (∃ t, step (fed cfg64 doneUp (.cmd (cmdWord 4#3)) true) = .next t ∧ doneUp.terminal = true) :=
  ⟨⟨_, rfl, by decide, by decide⟩, ⟨_, rfl, by decide, by decide⟩, ⟨_, rfl, by decide⟩, ⟨_, rfl, by decide⟩⟩

/-- The three ways into `ABORTED`, a refused abort frame, and the two events without a frame. -/
theorem witness_AbortsCollected :
    (∃ t, step (fed cfg64 upInit (.rx rspAbort) true) = .next t ∧ upInit.st ≠ .aborted ∧ t.x.st = .aborted) ∧
    (∃ t, step (fed cfg64 upInit (.rx rspAck) true) = .next t ∧ t.x.st = .aborted ∧ t.tx = some (abortFrame upInit 0x05040001#32)) ∧
    (∃ t, step (fed cfg8 upSeg7 (.rx (frame8 0x585#11 0x19 1 2 3 0 0 0 0)) true) = .next t ∧ t.x.st = .aborted ∧
      t.tx = some (abortFrame upSeg7 0x05040005#32)) ∧
    (∃ t, step (fed cfg64 upInit (.rx rspAck) false) = .next t ∧ t.tx = some (abortFrame upInit 0x05040001#32)) ∧
    (∃ t, step (fed cfg64 upInit .timeout true) = .next t) ∧ (∃ t, step (fed cfg64 upInit .rxIoError true) = .next t) :=
  ⟨⟨_, rfl, by decide, by decide⟩, ⟨_, rfl, by decide, by decide⟩, ⟨_, rfl, by decide, by decide⟩, ⟨_, rfl, by decide⟩,
    ⟨_, rfl⟩, ⟨_, rfl⟩⟩

theorem witness_EventsOutsideTransferIgnored :
    ¬ (fed cfg64 .x0 (.rx rspAck) true).x.Waits ∧ ¬ (fed cfg64 doneUp .timeout true).x.Waits ∧
    ¬ (fed cfg64 abortedX .rxIoError true).x.Waits ∧ (fed cfg64 .x0 (.rx rspAck) true).inputs = [⟨.rx rspAck, true⟩] := by decide

theorem witness_UndecodableFrameEndsTransfer :
    (fed cfg64 upInit (.rx (short 0x100#11 0#4 0 0 0 0)) true).x.Waits ∧
    decodeMessage (short 0x100#11 0#4 0 0 0 0) = .error .unknownFunctionCode ∧
    decodeMessage (short 0x585#11 9#4 0 0 0 0) = .error .malformedPayload ∧
    decodeMessage (short 0x585#11 7#4 0x60 0 0 0) = .error .malformedPayload := by decide

theorem witness_WrongKindEndsTransfer :
    (fed cfg64 upInit (.rx (short 0x080#11 0#4 0 0 0 0)) true).x.Waits ∧
    decodeMessage (short 0x080#11 0#4 0 0 0 0) = .ok .sync ∧ ∀ node cmd, Message.sync ≠ .sdoResponse node cmd :=
  ⟨by decide, by decide, fun _ _ h => Message.noConfusion h⟩

theorem witness_WrongNodeEndsTransfer :
    (fed cfg64 upInit (.rx (frame8 0x586#11 0x80 0 0 0 0 0 0 0)) true).x.Waits ∧
    decodeMessage (frame8 0x586#11 0x80 0 0 0 0 0 0 0) = .ok (.sdoResponse 6#8 (.abort 0#16 0#8 0#32)) ∧
    (6#8).toNat ≠ upInit.node.toNat := by decide

theorem witness_RemoteAbortEndsTransfer : (withX cfg64 upInit).x.Waits ∧ (withX cfg64 downSeg).x.Waits := by decide

theorem witness_UninterpretableResponseAborts :
    (withX cfg64 upInit).x.Waits ∧
    receivedResponse upInit.node (.downloadSegRsp false) = some (.sdoDlSegRsp .rx 5#7 false) ∧
    ¬ expectedForm upInit (.downloadSegRsp false) ∧ ¬ expectedForm downSeg (.uploadSegRsp false 0#3 false ⟨0, 0, 0, 0, 0, 0, 0⟩) :=
  ⟨by decide, rfl, by simp [expectedForm, upInit], by simp [expectedForm, downSeg, downInit]⟩

theorem witness_WrongAddressEchoAborts :
    (downExp.st = .initiating ∧ downExp.dir = .download ∧ (0x2001#16 ≠ downExp.index ∨ 1#8 ≠ downExp.sub)) ∧
    (upInit.st = .initiating ∧ upInit.dir = .upload ∧ (0x2000#16 ≠ upInit.index ∨ 2#8 ≠ upInit.sub)) := by decide

theorem witness_InitiateDownloadAcknowledged :
    (downExp.st = .initiating ∧ downExp.dir = .download ∧ downExp.exp = true) ∧
    (downInit.st = .initiating ∧ downInit.dir = .download ∧ downInit.exp = false ∧ downInit.bufLen = downInit.buf.length ∧
      downInit.remaining.toNat ≤ downInit.bufLen) := by decide

/-- One byte left, exactly seven, and all ten. -/
theorem witness_SegmentSent :
    (downInit.bufLen = downInit.buf.length ∧ 1 ≤ downInit.remaining.toNat ∧ downInit.remaining.toNat ≤ downInit.bufLen) ∧
    (1 ≤ ({ downSeg with remaining := 7#32 } : Xfer).remaining.toNat ∧
      ({ downSeg with remaining := 7#32 } : Xfer).remaining.toNat ≤ downSeg.bufLen) ∧
    (1 ≤ ({ downSeg with remaining := 1#32 } : Xfer).remaining.toNat) := by decide

theorem witness_DownloadSegmentAcknowledged :
    (downLast.st = .segmenting ∧ downLast.dir = .download ∧ downLast.remaining = 0#32) ∧
    (downSeg.st = .segmenting ∧ downSeg.dir = .download ∧ downSeg.remaining ≠ 0#32 ∧ downSeg.bufLen = downSeg.buf.length ∧
      downSeg.remaining.toNat ≤ downSeg.bufLen) := by decide

theorem witness_ExpeditedUploadCompletes : (withX cfg64 upInit).x.st = .initiating ∧ (withX cfg64 upInit).x.dir = .upload := by
  decide

theorem witness_SegmentedUploadStarts : (withX cfg8 upInit).x.st = .initiating ∧ (withX cfg8 upInit).x.dir = .upload := by decide

/-- An exact fit of one byte, an empty last segment, and a full segment that is not the last. -/
theorem witness_UploadSegmentAppended :
    upSeg7.st = .segmenting ∧ upSeg7.dir = .upload ∧ 1 = (if true = true then 7 - (6#3).toNat else 7) ∧
    upSeg7.bufLen + 1 ≤ cfg8.bufMax ∧ 0 = (if true = true then 7 - (7#3).toNat else 7) ∧ upSeg7.bufLen + 0 ≤ cfg8.bufMax ∧
    7 = (if false = true then 7 - (3#3).toNat else 7) ∧ upSeg.bufLen + 7 ≤ cfg8.bufMax := by decide

/-- One byte too many, with `c` set and without. -/
theorem witness_UploadOverflowAborts :
    upSeg7.st = .segmenting ∧ upSeg7.dir = .upload ∧ cfg8.bufMax < upSeg7.bufLen + (if true = true then 7 - (5#3).toNat else 7) ∧
    cfg8.bufMax < upSeg7.bufLen + (if false = true then 7 - (7#3).toNat else 7) := by decide

theorem witness_ToggleMismatchEndsTransfer :
    (downSeg.st = .segmenting ∧ downSeg.dir = .download) ∧ (upSeg.st = .segmenting ∧ upSeg.dir = .upload) := by decide

theorem witness_TimeoutAndReceiveFailure :
    (fed cfg64 upInit .timeout true).x.Waits ∧ (fed cfg64 upInit .timeout true).inputs = [⟨.timeout, true⟩] ∧
    (fed cfg64 downSeg .rxIoError true).x.Waits ∧ (fed cfg64 downSeg .rxIoError true).inputs = [⟨.rxIoError, true⟩] := by decide

theorem witness_TransmitFailure :
    (∃ t, step (fed cfg64 downLast (.rx (frame8 0x585#11 0x30 0 0 0 0 0 0 0)) true) = .next t ∧ t.tx = none) ∧
    (∃ t f, step (fed cfg64 downInit (.rx rspAck) true) = .next t ∧ t.tx = some f ∧
      decodeEvent (.rx rspAck) = .instr (.sdoDlInitRsp .rx 5#7 0x2000#16 1#8)) ∧
    (∃ t, step (fed cfg64 .x0 (.cmd (cmdWord 1#3)) true) = .next t ∧ decodeEvent (.cmd (cmdWord 1#3)) = .instr (.send .sync)) :=
  ⟨⟨_, rfl, by decide⟩, ⟨_, frame8 0x605#11 0 0xD0 0xD1 0xD2 0xD3 0xD4 0xD5 0xD6, rfl, by decide, by decide⟩,
    ⟨_, rfl, by decide⟩⟩

theorem witness_CodecPortsTouchNothing :
    (fed cfg64 upSeg (.parse rspAck) true).inputs = [⟨.parse rspAck, true⟩] ∧
    (fed cfg64 upSeg (.pack .sync) true).inputs = [⟨.pack .sync, true⟩] ∧ Message.sync.wf = true ∧
    (Message.heartbeat 0#8 0#8).wf = false := by decide

/-- `EmcyForms`, `PdoForms`, `HeartbeatForms`, `NmtPayloadParsed`, `SdoRequestParsed`, `SdoResponseParsed`, `SdoRequestFramesPacked`,
`SdoResponseFramesPacked`: node fields 1 and 127, the shortest and longest payloads of their clauses. -/
theorem witness_frame_forms :
    (1#7 ≠ 0#7 ∧ 127#7 ≠ 0#7) ∧ ([] : List Byte).length < 8 ∧ (List.replicate 7 0#8).length < 8 ∧
    ([] : List Byte).length ≤ 8 ∧ (List.replicate 8 0#8).length ≤ 8 := by decide

theorem witness_SendOutcomes :
    (withX cfg64 upInit).x.Waits ∧ ¬ (withX cfg64 doneUp).x.Waits ∧ (Message.nmt .resetNode 128#8).wf = false ∧
    (Message.nmt .resetNode 127#8).wf = true ∧ (withX cfg64 .x0).txOk = true ∧
    ({ withX cfg64 .x0 with txOk := false } : State).txOk = false := by decide

/-- Node 0, 128, 255 refused; 1 and 127 accepted. -/
theorem witness_ReadOutcomes :
    (withX cfg64 doneUp).x.st ≠ .idle ∧ (withX cfg64 .x0).x.st = .idle ∧ ((0#8).toNat = 0 ∨ 127 < (0#8).toNat) ∧
    ((128#8).toNat = 0 ∨ 127 < (128#8).toNat) ∧ ((255#8).toNat = 0 ∨ 127 < (255#8).toNat) ∧
    (1 ≤ (1#8).toNat ∧ (1#8).toNat ≤ 127) ∧ (1 ≤ (127#8).toNat ∧ (127#8).toNat ≤ 127) := by decide

/-- Lengths 0 and `BUF_MAX + 1` refused; 1 and 4 expedited; 5 and `BUF_MAX` segmented. -/
theorem witness_WriteOutcomes :
    (([] : List Byte).length = 0 ∨ cfg4.bufMax < ([] : List Byte).length) ∧
    ((List.replicate 5 0#8).length = 0 ∨ cfg4.bufMax < (List.replicate 5 0#8).length) ∧
    (1 ≤ [0xAA#8].length ∧ [0xAA#8].length ≤ 4 ∧ [0xAA#8].length ≤ cfg4.bufMax) ∧
    (1 ≤ (List.replicate 4 0#8).length ∧ (List.replicate 4 0#8).length ≤ 4 ∧ (List.replicate 4 0#8).length ≤ cfg4.bufMax) ∧
    (5 ≤ (List.replicate 5 0#8).length ∧ (List.replicate 5 0#8).length ≤ cfg64.bufMax) ∧
    (5 ≤ (List.replicate 64 0#8).length ∧ (List.replicate 64 0#8).length ≤ cfg64.bufMax) ∧
    (withX cfg4 .x0).x.st = .idle ∧ (withX cfg64 upSeg).x.st ≠ .idle := by decide

theorem witness_AckOutcomes :
    (withX cfg64 doneUp).x.st = .done ∧ (withX cfg64 abortedX).x.st = .aborted ∧ (withX cfg64 timedOutX).x.st = .timedOut ∧
    (withX cfg64 errorX).x.st = .error ∧ (withX cfg64 .x0).x.st = .idle ∧ (withX cfg64 upInit).x.st = .initiating ∧
    (withX cfg64 upSeg).x.st = .segmenting := by decide

/-- One command for each reason, and one of each opcode that no test refuses. -/
theorem witness_RefusalsInOrder :
    refusalOf cfg64 upInit (cmdWord 5#3) = some .badCommand ∧ refusalOf cfg64 upInit (cmdWord 1#3) = some .busy ∧
    refusalOf cfg64 .x0 { cmdWord 1#3 with msg := .heartbeat 0#8 0#8 } = some .badMessage ∧
    refusalOf cfg64 doneUp readCmd = some .notIdle ∧ refusalOf cfg64 .x0 { readCmd with node := 0#8 } = some .badNode ∧
    refusalOf cfg64 .x0 { writeCmd with node := 128#8, data := [] } = some .badNode ∧
    refusalOf cfg64 .x0 { writeCmd with data := [] } = some .badLength ∧ refusalOf cfg8 .x0 writeCmd = some .badLength ∧
    refusalOf cfg64 upSeg (cmdWord 4#3) = some .nothingToAck ∧ refusalOf cfg64 upSeg (cmdWord 0#3) = none ∧
    refusalOf cfg64 .x0 (cmdWord 1#3) = none ∧ refusalOf cfg64 .x0 readCmd = none ∧ refusalOf cfg64 .x0 writeCmd = none ∧
    refusalOf cfg64 errorX (cmdWord 4#3) = none := by decide

theorem witness_NopAloneWhileWaiting : (withX cfg64 upInit).x.Waits ∧ (withX cfg64 downSeg).x.Waits := by decide

theorem witness_ResetDiscardsTransfer :
    (fed cfg64 downSeg .reset false).inputs = [⟨.reset, false⟩] ∧ (fed cfg64 .x0 .reset true).inputs = [⟨.reset, true⟩] := by
  decide

theorem witness_ResultVisibility :
    (doneUp.bufLen = doneUp.buf.length ∧ doneUp.st = .done ∧ doneUp.dir = .upload) ∧
    (doneDown.bufLen = doneDown.buf.length ∧ doneDown.st = .done ∧ doneDown.dir = .download) ∧
    (abortedX.bufLen = abortedX.buf.length ∧ abortedX.st = .aborted) ∧ timedOutX.st = .timedOut ∧ errorX.st = .error ∧
    (downSeg.bufLen = downSeg.buf.length ∧ downSeg.st = .segmenting) ∧ upInit.st = .initiating := by decide

/-- The two lengths at the ends: five bytes in one segment, and a full buffer of 64. -/
theorem witness_SegmentedWriteDelivers :
    cfg64.WF ∧ (withX cfg64 .x0).x = .x0 ∧ 5#7 ≠ 0#7 ∧ 5 ≤ (List.replicate 5 0#8).length ∧
    (List.replicate 5 0#8).length ≤ cfg64.bufMax ∧ (List.replicate 64 0#8).length ≤ cfg64.bufMax ∧
    ({ withX cfg64 .x0 with inputs := downloadInputs 5#7 0x2000#16 1#8 ten ++ [] } : State).inputs =
      downloadInputs 5#7 0x2000#16 1#8 ten ++ [] ∧ 1 < segmentCount ten := by decide

/-- An empty datum in one segment (the frame of S23), and a full buffer of 64. -/
theorem witness_SegmentedReadCollects :
    cfg64.WF ∧ (withX cfg64 .x0).x = .x0 ∧ 127#7 ≠ 0#7 ∧ ([] : List Byte).length ≤ cfg64.bufMax ∧
    0 < segmentCount ([] : List Byte) ∧ segmentBytes [] 0 = ⟨0x0F, 0, 0, 0, 0, 0, 0, 0⟩ ∧
    (List.replicate 64 0#8).length ≤ cfg64.bufMax ∧
    ({ withX cfg64 .x0 with inputs := uploadInputs 5#7 0x2000#16 1#8 true 10#32 ten ++ [] } : State).inputs =
      uploadInputs 5#7 0x2000#16 1#8 true 10#32 ten ++ [] ∧ 1 < segmentCount ten := by decide

end Sys2Proof.Tests
end

section
/-! PROOFS. The lifetime of a transfer record (10_state.md R41): what one step can do to the record, said once, and the obligation. -/

namespace Sys2Proof.Machine

/-! ## Responses keep a waiting transfer in existence -/

/-- R216 ends in `ERROR`, so it never ends in `IDLE`. -/
theorem finish_st_ne_idle (x1 : Xfer) (tx : Option RawFrame) (ok : Bool) (h : x1.st ≠ .idle) :
    (finish x1 tx ok).st ≠ .idle := by
  cases tx with
  | none => exact h
  | some f =>
    cases ok with
    | true => exact h
    | false => simp [finish]

/-- `send_segment` (R205) writes `remaining` only. -/
theorem sendSegment_st {y x1 : Xfer} {tx : Option RawFrame} (h : sendSegment y = .ok (x1, tx)) : x1.st = y.st := by
  obtain ⟨-, rfl, -⟩ := sendSegment_ok y x1 tx h
  rfl

/-- Appending to the buffer leaves `st` alone. -/
theorem memWrite_st {cfg : Cfg} {x y : Xfer} {v : List Byte} (h : memWrite cfg x v = some y) : y.st = x.st := by
  obtain ⟨-, rfl⟩ := memWrite_some cfg x y v h
  rfl

/-- No response form of R197 to R210 leads to `IDLE`. -/
theorem ResponseCase.st_ne_idle {cfg : Cfg} {x x1 : Xfer} {cmd : SdoCommand} {tx : Option RawFrame}
    (h : ResponseCase cfg x cmd x1 tx) : x1.st ≠ .idle := by
  cases h with
  | remoteAbort | notInterpreted | wrongToggleDown | wrongToggleUp | overflow =>
    simp [uninterpretable, abortOut]
  | expeditedDownload | expeditedUpload | lastAcknowledged | lastAppended => simp [acceptExpedited]
  | segmentedUpload => simp [acceptSegmented]
  | segmentedDownload _ _ _ _ _ hseg => simp [sendSegment_st hseg]
  | acknowledged hs _ _ _ _ hseg => simp [sendSegment_st hseg, hs]
  | appended hs _ _ _ _ hw => simp [memWrite_st hw, hs]

/-- No frame received while waiting leads to `IDLE`. -/
theorem onRx_st_ne_idle {cfg : Cfg} {x x1 : Xfer} {res : Except ClassErr Message} {tx : Option RawFrame}
    (h : onRx cfg x res = .ok (x1, tx)) : x1.st ≠ .idle := by
  rcases onRx_cases cfg x x1 res tx h with ⟨e, -, rfl, -⟩ | ⟨m, -, -, rfl, -⟩ | ⟨cmd, -, hr⟩
  · cases e <;> simp [classFailure]
  · simp [foreignFrame]
  · exact (onResponse_cases cfg x x1 cmd tx hr).st_ne_idle

/-! ## What one step can do to the record -/

/-- The ways a step on the decoded event `dec`, answering `resp` on `CMD`, can lead from the record `x` to the record `y`, as far as
the existence of a transfer (R41) is concerned. -/
inductive RecordStep (dec : Decoded) (x y : Xfer) (resp : Option HostResponse) : Prop where
  /-- The record is untouched. -/
  | kept (hy : y = x)
  /-- A waiting transfer goes on or ends in a terminal state. -/
  | moved (hx : x.Waits) (hy : y.st ≠ .idle)
  /-- An accepted `SDO_READ` (R242). -/
  | readStarted (node : BitVec 8) (index : BitVec 16) (sub : Byte) (hd : dec = .instr (.sdoRead node index sub))
    (hr : resp = some .accepted) (hx : x.st = .idle) (hy : y.st ≠ .idle)
  /-- An accepted `SDO_WRITE` (R243). -/
  | writeStarted (node : BitVec 8) (index : BitVec 16) (sub : Byte) (data : List Byte)
    (hd : dec = .instr (.sdoWrite node index sub data)) (hr : resp = some .accepted) (hx : x.st = .idle) (hy : y.st ≠ .idle)
  /-- An accepted `ACK` (R244). -/
  | acknowledged (hd : dec = .instr .ack) (hr : resp = some .accepted) (hx : x.terminal = true) (hy : y = .x0)
  /-- Reset (R291). -/
  | reset (hd : dec = .reset) (hy : y = .x0)

theorem formAt_recordStep {port : Port} {res : Except ClassErr Message} {s t : State} (dec : Decoded)
    (h : formAt port res s = .next t) : RecordStep dec s.x t.x t.resp := by
  rcases formAt_next port res s t h with ⟨-, hr⟩ | ⟨-, rfl⟩ | ⟨-, a, rfl⟩
  · rcases receive_next res s t hr with ⟨hw, x1, tx, hx, rfl⟩ | ⟨-, rfl⟩
    · exact .moved ((waiting_iff s.x).mp hw) (finish_st_ne_idle x1 tx s.txOk (onRx_st_ne_idle hx))
    · exact .kept rfl
  · exact .kept rfl
  · exact .kept rfl

theorem execSend_recordStep {m : Message} {s t : State} (dec : Decoded) (h : execSend m s = .next t) :
    RecordStep dec s.x t.x t.resp := by
  unfold execSend at h
  split at h
  · cases h; exact .kept rfl
  · split at h <;> cases h <;> exact .kept rfl

theorem execSdoRead_recordStep {node : BitVec 8} {index : BitVec 16} {sub : Byte} {s t : State}
    (h : execSdoRead node index sub s = .next t) : RecordStep (.instr (.sdoRead node index sub)) s.x t.x t.resp := by
  unfold execSdoRead at h
  split at h
  · cases h; exact .kept rfl
  rename_i hidle
  split at h
  · cases h
    exact .readStarted node index sub rfl rfl (not_not.mp hidle) (finish_st_ne_idle _ _ _ (by simp [newUpload]))
  · cases h; exact .kept rfl

theorem execSdoWrite_recordStep {node : BitVec 8} {index : BitVec 16} {sub : Byte} {data : List Byte} {s t : State}
    (h : execSdoWrite node index sub data s = .next t) :
    RecordStep (.instr (.sdoWrite node index sub data)) s.x t.x t.resp := by
  unfold execSdoWrite at h
  split at h
  · cases h; exact .kept rfl
  rename_i hidle
  split at h
  · split at h
    · cases h; exact .kept rfl
    · cases h
      exact .writeStarted node index sub data rfl rfl (not_not.mp hidle) (finish_st_ne_idle _ _ _ (by simp [newDownload]))
  · cases h; exact .kept rfl

theorem execAck_recordStep {s t : State} (h : execAck s = .next t) : RecordStep (.instr .ack) s.x t.x t.resp := by
  unfold execAck at h
  split at h
  · cases h; exact .acknowledged rfl rfl ‹_› rfl
  · cases h; exact .kept rfl

/-- An instruction is one of the five host commands, or a frame form. -/
theorem exec_recordStep {i : Instr} {s t : State} (h : exec i s = .next t) : RecordStep (.instr i) s.x t.x t.resp := by
  cases i with
  | nop => cases h; exact .kept rfl
  | send m => exact execSend_recordStep _ h
  | sdoRead node index sub => exact execSdoRead_recordStep h
  | sdoWrite node index sub data => exact execSdoWrite_recordStep h
  | ack => exact execAck_recordStep h
  | _ => exact formAt_recordStep _ ((exec_frame _ _ s rfl).symm.trans h)

theorem endTransfer_recordStep (s : State) (st : St) (k : ErrKind) (dec : Decoded) (hst : st ≠ .idle) :
    RecordStep dec s.x (endTransfer s st k).x (endTransfer s st k).resp := by
  unfold endTransfer
  split
  · exact .moved ((waiting_iff s.x).mp ‹_›) hst
  · exact .kept rfl

theorem onBadFrame_recordStep (s : State) (port : Port) (e : ClassErr) (dec : Decoded) :
    RecordStep dec s.x (onBadFrame port e s).x (onBadFrame port e s).resp := by
  cases port with
  | rx =>
    simp only [onBadFrame]
    split
    · exact .moved ((waiting_iff s.x).mp ‹_›) (by cases e <;> simp [classFailure])
    · exact .kept rfl
  | parse => exact .kept rfl
  | pack => exact .kept rfl

/-- The events that are no instruction. -/
theorem fetchDecoded_recordStep {dec : Decoded} {s t : State} (h : fetchDecoded dec s = .done t) :
    RecordStep dec s.x t.x t.resp := by
  cases dec with
  | instr i => cases h
  | badFrame port e => cases h; exact onBadFrame_recordStep s port e _
  | badCommand op => cases h; exact .kept rfl
  | badMessage m => cases h; exact .kept rfl
  | timeout => cases h; exact endTransfer_recordStep s .timedOut .timeout _ (by decide)
  | rxIoError => cases h; exact endTransfer_recordStep s .error .transportError _ (by decide)
  | reset => cases h; exact .reset rfl rfl

/-- Everything a step can do to the record, as far as R41 is concerned. -/
theorem step_recordStep {s t : State} {d : Delivery} {rest : List Delivery} (hin : s.inputs = d :: rest)
    (h : step s = .next t) : RecordStep (decodeEvent d.ev) s.x t.x t.resp := by
  obtain ⟨d', rest', hin', hcase⟩ := step_next s t h
  obtain ⟨rfl, rfl⟩ := List.cons.inj (hin.symm.trans hin')
  rcases hcase with ⟨i, hd, hexec⟩ | hdone
  · rw [hd]; exact exec_recordStep (s := take s d rest) hexec
  · exact fetchDecoded_recordStep (s := take s d rest) hdone

/-! ## Reset is decoded from the event of reset only -/

theorem decodeCmd_ne_reset (c : RawCmd) : decodeCmd c ≠ .reset := by
  unfold decodeCmd
  split <;> simp

theorem decodeFrame_ne_reset (port : Port) (r : RawFrame) : decodeFrame port r ≠ .reset := by
  rcases decodeFrame_result port r with ⟨i, f, hd, -⟩ | ⟨e, hd, -⟩ <;> simp [hd]

theorem decodePack_ne_reset (m : Message) : decodePack m ≠ .reset := by
  unfold decodePack
  split
  · split <;> simp
  · simp

theorem decodeEvent_eq_reset {ev : Event} (h : decodeEvent ev = .reset) : ev = .reset := by
  cases ev with
  | cmd c => exact absurd h (decodeCmd_ne_reset c)
  | rx r => exact absurd h (decodeFrame_ne_reset .rx r)
  | parse r => exact absurd h (decodeFrame_ne_reset .parse r)
  | pack m => exact absurd h (decodePack_ne_reset m)
  | timeout => cases h
  | rxIoError => cases h
  | reset => rfl

/-! ## The lifetime of a transfer -/

theorem ne_x0_of_st_ne_idle {x : Xfer} (h : x.st ≠ .idle) : x ≠ .x0 := fun hx => h (congrArg Xfer.st hx)

theorem ne_x0_of_waits {x : Xfer} (h : x.Waits) : x ≠ .x0 := by
  rintro rfl
  exact absurd h (by decide)

/-- While a transfer exists the sequencer is not in `IDLE` (R40 (a)). -/
theorem State.Inv.st_ne_idle {s : State} (hi : s.Inv) (hx : s.x ≠ .x0) : s.x.st ≠ .idle :=
  fun h => hx (hi.xfer.idle_is_x0 h)

/-- A transfer begins by an accepted `SDO_READ` or `SDO_WRITE` only. -/
theorem RecordStep.begins {dec : Decoded} {x y : Xfer} {resp : Option HostResponse} (h : RecordStep dec x y resp)
    (hx : x = .x0) (hy : y ≠ .x0) :
    resp = some .accepted ∧
      ((∃ node index sub, dec = .instr (.sdoRead node index sub)) ∨
        (∃ node index sub data, dec = .instr (.sdoWrite node index sub data))) := by
  cases h with
  | kept h => exact absurd (h.trans hx) hy
  | moved hw _ => exact absurd hx (ne_x0_of_waits hw)
  | readStarted node index sub hd hr _ _ => exact ⟨hr, .inl ⟨node, index, sub, hd⟩⟩
  | writeStarted node index sub data hd hr _ _ => exact ⟨hr, .inr ⟨node, index, sub, data, hd⟩⟩
  | acknowledged _ _ _ h => exact absurd h hy
  | reset _ h => exact absurd h hy

/-- A transfer ends by an accepted `ACK` or by reset only. -/
theorem RecordStep.ends {dec : Decoded} {x y : Xfer} {resp : Option HostResponse} (h : RecordStep dec x y resp)
    (hx : x ≠ .x0) (hy : y = .x0) : (dec = .instr .ack ∧ resp = some .accepted) ∨ dec = .reset := by
  cases h with
  | kept h => exact absurd (h.symm.trans hy) hx
  | moved _ h => exact absurd hy (ne_x0_of_st_ne_idle h)
  | readStarted _ _ _ _ _ _ h => exact absurd hy (ne_x0_of_st_ne_idle h)
  | writeStarted _ _ _ _ _ _ _ h => exact absurd hy (ne_x0_of_st_ne_idle h)
  | acknowledged hd hr _ _ => exact .inl ⟨hd, hr⟩
  | reset hd _ => exact .inr hd

theorem execSdoRead_notIdle {s : State} (h : s.x.st ≠ .idle) (node : BitVec 8) (index : BitVec 16) (sub : Byte) :
    execSdoRead node index sub s = .next (refuse s .notIdle) := by
  simp [execSdoRead, h]

theorem execSdoWrite_notIdle {s : State} (h : s.x.st ≠ .idle) (node : BitVec 8) (index : BitVec 16) (sub : Byte)
    (data : List Byte) : execSdoWrite node index sub data s = .next (refuse s .notIdle) := by
  simp [execSdoWrite, h]

/-- Settles O19: the inversion `step_recordStep` says what each step can do to the record; R40 (a) gives the refusals. -/
theorem transferLifetime : Obligations.TransferLifetime := by
  unfold Obligations.TransferLifetime
  refine ⟨fun s t d rest _ hin hstep => ?_, fun s node index sub data hi hx => ?_⟩
  · have hrec := step_recordStep hin hstep
    exact ⟨hrec.begins, fun hx hy => (hrec.ends hx hy).imp_right decodeEvent_eq_reset⟩
  · have hst := hi.st_ne_idle hx
    exact ⟨execSdoRead_notIdle hst node index sub, execSdoWrite_notIdle hst node index sub data⟩

end Sys2Proof.Machine
end

section
/-! PROOFS. The Frame Codec (40_frame_codec.md R102, R106 to R109): packing keeps a frame, and the frame forms of SYNC, EMCY, PDO and
heartbeat on `PARSE` and `PACK`. -/

namespace Sys2Proof

/-! ## Packing (R102) -/

/-- Padding is appending zero bytes, `s ++ zeros(8 - len(s))` (R102). -/
theorem padded_toList_eq_append (p : List Byte) (h : p.length ≤ 8) :
    (Bytes8.padded p).toList = p ++ List.replicate (8 - p.length) 0#8 := by
  have hbytes : (Bytes8.padded p).toList = (List.range 8).map (byteAt p) := rfl
  rw [hbytes]
  apply List.ext_getElem
  · simp [h]
  · intro i _ _
    by_cases hi : i < p.length
    · simp [byteAt, hi]
    · simp [byteAt, List.getElem_append, hi]

theorem packRaw_dlc_toNat (f : CanFrame) (h : f.payload.length ≤ 8) : (packRaw f).dlc.toNat = f.payload.length := by
  have hlt : f.payload.length < 2 ^ 4 := by omega
  simp only [packRaw, BitVec.toNat_ofNat, Nat.mod_eq_of_lt hlt]

theorem parseRaw_packRaw (f : CanFrame) (h : f.payload.length ≤ 8) : parseRaw (packRaw f) = .ok f := by
  have hdlc := packRaw_dlc_toNat f h
  have hdata : (packRaw f).data.toList.take f.payload.length = f.payload := take_pad_toList f.payload h
  have hid : (packRaw f).id = f.id := rfl
  simp only [parseRaw, hdlc, hdata, hid, Nat.not_lt.mpr h, if_false]

/-- Settles O3: the length code of at most 8 is kept by its 4 bits, and the bytes taken back are those before the padding. -/
theorem parseUndoesPack : Obligations.ParseUndoesPack := by
  intro f h
  exact ⟨parseRaw_packRaw f h, packRaw_dlc_toNat f h, rfl, padded_toList_eq_append f.payload h⟩

/-! ## Node numbers and the frames of SYNC, EMCY and heartbeat (R103, R106, R107, R109) -/

/-- A node field other than 0 is a `NodeId`. -/
theorem isNodeId_node8_of_ne_zero {node : BitVec 7} (h : node ≠ 0#7) : isNodeId (node8 node) = true := by
  rw [isNodeId_node8]
  exact decide_eq_true h

theorem sync_encode : Message.sync.encode = ⟨0x080#11, 0#4, ⟨0, 0, 0, 0, 0, 0, 0, 0⟩⟩ := rfl

/-- The EMCY message whose payload is `b` (R107). -/
def emcyOf (node : BitVec 7) (b : Bytes8) : Message :=
  .emcy (node8 node) (le16 b.b0 b.b1) b.b2 ⟨b.b3, b.b4, b.b5, b.b6, b.b7⟩

theorem decodeEmcy_toList (node : BitVec 7) (b : Bytes8) : decodeEmcy (node8 node) b.toList = .ok (emcyOf node b) := rfl

theorem decodeEmcy_short (node : BitVec 8) {p : List Byte} (h : p.length < 8) :
    decodeEmcy node p = .error .malformedPayload := if_pos h

@[simp] theorem emcyOf_payload (node : BitVec 7) (b : Bytes8) : (emcyOf node b).payload = b.toList := by
  simp [emcyOf, Message.payload, emcyPayload, bytesLe16, Bytes5.toList, Bytes8.toList]

@[simp] theorem emcyOf_cobId (node : BitVec 7) (b : Bytes8) : (emcyOf node b).cobId = orNode 0x080#11 node := by
  simp [emcyOf, Message.cobId, Message.kind, Message.nodeOf, cobIdOf]

theorem emcyOf_encode (node : BitVec 7) (b : Bytes8) : (emcyOf node b).encode = ⟨orNode 0x080#11 node, 8#4, b⟩ := by
  simp [Message.encode, packRaw]

theorem heartbeat_encode (node : BitVec 7) (b : Byte) :
    (Message.heartbeat (node8 node) b).encode = ⟨orNode 0x700#11 node, 1#4, ⟨b, 0, 0, 0, 0, 0, 0, 0⟩⟩ := by
  simp [Message.encode, packRaw, Message.cobId, Message.kind, Message.nodeOf, cobIdOf, Message.payload, heartbeatPayload,
    Bytes8.padded, byteAt]

/-! ## The PDO rows (R108, R131) -/

/-- The bases of R135 to R142 as one formula: 0x100 from slot to slot, 0x80 from transmit to receive. -/
theorem pdoBase_eq (k : Fin 4) (dir : PdoDir) :
    pdoBase ⟨k.val + 1, dir⟩ = BitVec.ofNat 11 (0x180 + 0x100 * k.val + (if dir = .rx then 0x80 else 0)) := by
  cases dir <;> revert k <;> decide

theorem pdo_encode (node : BitVec 7) (slot : PdoSlot) (p : List Byte) :
    (Message.pdo (node8 node) slot p).encode = ⟨orNode (pdoBase slot) node, BitVec.ofNat 4 p.length, Bytes8.padded p⟩ := by
  simp [Message.encode, packRaw, Message.cobId, Message.kind, Message.nodeOf, cobIdOf, Message.payload]

theorem pdo_wf {node : BitVec 7} (hn : node ≠ 0#7) (k : Fin 4) (dir : PdoDir) {p : List Byte} (hp : p.length ≤ 8) :
    (Message.pdo (node8 node) ⟨k.val + 1, dir⟩ p).wf = true := by
  have hslot : k.val + 1 ≤ 4 := k.isLt
  simp [Message.wf, isNodeId_node8_of_ne_zero hn, hslot, hp]

end Sys2Proof

namespace Sys2Proof.Machine

/-! ## A frame form on the codec ports (R104, R105) -/

section
variable {i : Instr} {f : Form} {m : Message}

theorem exec_parse_ok (h : i.view = .frame f) (hport : f.port = .parse) (hres : f.result = .ok m) (s : State) :
    exec i s = .next (s.parsed (.ok m)) := by
  rw [exec_frame i f s h, hport, hres]
  rfl

theorem exec_parse_error {e : ClassErr} (h : i.view = .frame f) (hport : f.port = .parse) (hres : f.result = .error e)
    (s : State) : exec i s = .next (s.parsed (.err e)) := by
  rw [exec_frame i f s h, hport, hres]
  rfl

theorem exec_pack_ok (h : i.view = .frame f) (hport : f.port = .pack) (hres : f.result = .ok m) (hwf : m.wf = true)
    (s : State) : exec i s = .next (s.packed (.frame m.encode)) := by
  have hanswer : packAnswer m = .frame m.encode := if_pos hwf
  rw [exec_frame i f s h, hport, hres, ← hanswer]
  rfl

end

/-! ## The forms -/

theorem pdoRow_view (k : Fin 4) (dir : PdoDir) (port : Port) (node : BitVec 7) (p : List Byte) :
    (pdoRow k dir port node p).view = .frame (.ofKind port (.pdo ⟨k.val + 1, dir⟩) node p) := by
  cases dir <;> fin_cases k <;> rfl

/-- Settles O40: whatever the payload, the form stands for the one message `Sync`. -/
theorem syncForms : Obligations.SyncForms := by
  intro s p
  exact ⟨exec_parse_ok rfl rfl rfl s, sync_encode ▸ exec_pack_ok rfl rfl rfl rfl s⟩

/-- Settles O41: eight bytes are one message, which encodes to them again; fewer are refused by `decodeEmcy`. -/
theorem emcyForms : Obligations.EmcyForms := by
  intro s node b hn
  have hwf : (emcyOf node b).wf = true := isNodeId_node8_of_ne_zero hn
  refine ⟨exec_parse_ok rfl rfl (decodeEmcy_toList node b) s, ?_, fun p hp => ?_⟩
  · rw [exec_pack_ok rfl rfl (decodeEmcy_toList node b) hwf s, emcyOf_encode]
    rfl
  · exact exec_parse_error rfl rfl (decodeEmcy_short (node8 node) hp) s

/-- Settles O42: all eight rows are one form, of the row's slot, and the bases are one formula. -/
theorem pdoForms : Obligations.PdoForms := by
  intro s k dir node p hn hp
  refine ⟨exec_parse_ok (pdoRow_view k dir .parse node p) rfl rfl s, ?_⟩
  rw [exec_pack_ok (pdoRow_view k dir .pack node p) rfl rfl (pdo_wf hn k dir hp) s, pdo_encode, pdoBase_eq]
  rfl

/-- Settles O43: a payload is refused when it has no first byte; the bytes after it are not read. -/
theorem heartbeatForms : Obligations.HeartbeatForms := by
  intro s node b p hn
  have hwf : (Message.heartbeat (node8 node) b).wf = true := isNodeId_node8_of_ne_zero hn
  have hparse : decodeHeartbeat (node8 node) (b :: p) = .ok (.heartbeat (node8 node) b) := by simp [decodeHeartbeat, byteAt]
  refine ⟨exec_parse_ok rfl rfl hparse s, exec_parse_error rfl rfl rfl s, ?_⟩
  rw [exec_pack_ok rfl rfl rfl hwf s, heartbeat_encode]
  rfl

end Sys2Proof.Machine
end

section
/-! PROOFS. The Message Classifier (41_message_classifier.md R130, R146): which identifiers `classify` does not recognize. -/

namespace Sys2Proof

/-! ## The two fields of an identifier (R71) -/

theorem functionCode_toNat (id : BitVec 11) : (functionCode id).toNat = id.toNat / 128 := by
  have := id.isLt
  simp only [functionCode, BitVec.extractLsb'_toNat, Nat.shiftRight_eq_div_pow]
  omega

theorem nodeField_toNat (id : BitVec 11) : (nodeField id).toNat = id.toNat % 128 := by
  simp [nodeField]

theorem nodeField_eq_zero_iff (id : BitVec 11) : nodeField id = 0#7 ↔ id.toNat % 128 = 0 := by
  rw [← BitVec.toNat_inj, nodeField_toNat]
  rfl

/-! ## The identifiers without a message kind (R130, R146) -/

theorem nodeBlock_eq_error_iff (k : Kind) (nd : BitVec 7) : nodeBlock k nd = .error .unknownFunctionCode ↔ nd = 0#7 := by
  simp [nodeBlock]

/-- The function code's block is that of NMT (only node 0 is recognized), of SYNC and EMCY (every node is), one without a
kind (no node is), or one of a kind with a node (every node but 0 is). -/
theorem classify_eq_error_iff (id : BitVec 11) : classify id = .error .unknownFunctionCode ↔
    ((functionCode id).toNat = 0 ∧ nodeField id ≠ 0#7) ∨ (functionCode id).toNat ∈ [2, 13, 15] ∨
      (1 < (functionCode id).toNat ∧ nodeField id = 0#7) := by
  have hlt : (functionCode id).toNat < 16 := (functionCode id).isLt
  unfold classify
  generalize (functionCode id).toNat = fc at *
  interval_cases fc
  · simp
  · by_cases hz : nodeField id = 0#7 <;> simp [hz]
  all_goals simp [nodeBlock_eq_error_iff]

/-- Settles O2: with the function code as quotient and the node field as remainder by 128, the blocks of
`classify_eq_error_iff` are the listed ranges. -/
theorem unrecognizedIdentifiers : Obligations.UnrecognizedIdentifiers := by
  intro id
  have hlt := id.isLt
  rw [classify_eq_error_iff, functionCode_toNat, Ne, nodeField_eq_zero_iff]
  simp only [← BitVec.toNat_inj, BitVec.toNat_ofNat, List.mem_cons, List.not_mem_nil, or_false]
  omega

end Sys2Proof
end

section
/-! PROOFS. The NMT Encoder (42_nmt_encoder.md R150 to R156): every payload of the row `NMT`, parsed, and the five NMT functions,
packed and parsed. -/

namespace Sys2Proof

/-! ## The NMT payload (R156) -/

/-- A target of at most 127 is kept by the 7 bits of a node field. -/
theorem nmtResult_of_code {b0 b1 : Byte} {f : NmtFunction} (hcode : nmtFunctionOf b0 = some f) (htarget : b1.toNat ≤ 127)
    (p : List Byte) : nmtResult (b0 :: b1 :: p) = .ok (.nmt f b1) := by
  have hnode : node8 (b1.setWidth 7) = b1 := node8_node7 b1 htarget
  simp [nmtResult, decodeNmt, hcode, Nat.not_lt.mpr htarget, Except.map, hnode]

theorem nmtResult_of_no_code {b0 : Byte} (hcode : nmtFunctionOf b0 = none) (b1 : Byte) (p : List Byte) :
    nmtResult (b0 :: b1 :: p) = .error .malformedPayload := by
  simp [nmtResult, decodeNmt, hcode, Except.map]

theorem nmtResult_of_large_target {b1 : Byte} (htarget : 127 < b1.toNat) (b0 : Byte) (p : List Byte) :
    nmtResult (b0 :: b1 :: p) = .error .malformedPayload := by
  cases hcode : nmtFunctionOf b0 with
  | none => exact nmtResult_of_no_code hcode b1 p
  | some f => simp [nmtResult, decodeNmt, hcode, htarget, Except.map]

theorem nmtFunctionOf_eq_none {b : Byte} (h : ∀ f, b ≠ nmtCode f) : nmtFunctionOf b = none := by
  simp [nmtFunctionOf, h]

/-! ## The NMT frame (R150) -/

theorem nmt_wf (f : NmtFunction) (target : BitVec 7) : (Message.nmt f (node8 target)).wf = true := by
  have hlt := target.isLt
  simp only [Message.wf, node8, BitVec.toNat_setWidth, decide_eq_true_eq]
  omega

/-- The identifier is 0x000 and the target stands in byte 1 (R150). -/
theorem build_eq (f : NmtFunction) (target : BitVec 7) :
    build f target = ⟨0#11, 2#4, ⟨nmtCode f, node8 target, 0, 0, 0, 0, 0, 0⟩⟩ := rfl

end Sys2Proof

namespace Sys2Proof.Machine

/-! ## The row of an NMT function on the codec ports (R151 to R155) -/

theorem nmtInstr_view (port : Port) (f : NmtFunction) (target : BitVec 7) :
    (nmtInstr port f target).view = .frame (.ofMessage port (.nmt f (node8 target))) := by
  cases f <;> rfl

theorem exec_nmtInstr_pack (f : NmtFunction) (target : BitVec 7) (s : State) :
    exec (nmtInstr .pack f target) s = .next (s.packed (.frame (build f target))) :=
  exec_pack_ok (nmtInstr_view .pack f target) rfl rfl (nmt_wf f target) s

theorem exec_nmtInstr_parse (f : NmtFunction) (target : BitVec 7) (s : State) :
    exec (nmtInstr .parse f target) s = .next (s.parsed (.ok (.nmt f (node8 target)))) :=
  exec_parse_ok (nmtInstr_view .parse f target) rfl rfl s

/-- Settles O45: each of the five rows is `nmtInstr` of its function, whose frame is that of `build_eq`. -/
theorem nmtFramesBuilt : Obligations.NmtFramesBuilt := by
  intro s target
  have hpack (f : NmtFunction) : exec (nmtInstr .pack f target) s =
      .next (s.packed (.frame ⟨0#11, 2#4, ⟨nmtCode f, node8 target, 0, 0, 0, 0, 0, 0⟩⟩)) :=
    build_eq f target ▸ exec_nmtInstr_pack f target s
  have hparse (f : NmtFunction) := exec_nmtInstr_parse f target s
  exact ⟨hpack .startRemoteNode, hpack .stopRemoteNode, hpack .enterPreOperational, hpack .resetNode,
    hpack .resetCommunication, hparse .startRemoteNode, hparse .stopRemoteNode, hparse .enterPreOperational,
    hparse .resetNode, hparse .resetCommunication⟩

/-! ## The row `NMT` on `PARSE` (R156) -/

theorem exec_nmt_parse_malformed {p : List Byte} (h : nmtResult p = .error .malformedPayload) (s : State) :
    exec (.nmt .parse p) s = .next (s.parsed (.err .malformedPayload)) :=
  exec_parse_error rfl rfl h s

theorem exec_nmt_parse_code (f : NmtFunction) {b1 : Byte} (htarget : b1.toNat ≤ 127) (p : List Byte) (s : State) :
    exec (.nmt .parse (nmtCode f :: b1 :: p)) s = .next (s.parsed (.ok (.nmt f b1))) :=
  exec_parse_ok rfl rfl (nmtResult_of_code (nmtFunctionOf_nmtCode f) htarget p) s

/-- Settles O44: a large target is refused whatever the code; else byte 0 is one of the five codes or stands for no function. -/
theorem nmtPayloadParsed : Obligations.NmtPayloadParsed := by
  intro s b0 b1 p
  refine ⟨?_, exec_nmt_parse_malformed rfl s, exec_nmt_parse_malformed rfl s⟩
  split_ifs with hlarge hstart hstop hpreOp hreset hresetComm
  case pos => exact exec_nmt_parse_malformed (nmtResult_of_large_target hlarge b0 p) s
  all_goals have htarget : b1.toNat ≤ 127 := Nat.le_of_not_lt hlarge
  · exact hstart ▸ exec_nmt_parse_code .startRemoteNode htarget p s
  · exact hstop ▸ exec_nmt_parse_code .stopRemoteNode htarget p s
  · exact hpreOp ▸ exec_nmt_parse_code .enterPreOperational htarget p s
  · exact hreset ▸ exec_nmt_parse_code .resetNode htarget p s
  · exact hresetComm ▸ exec_nmt_parse_code .resetCommunication htarget p s
  · have hcode : ∀ f, b0 ≠ nmtCode f := by
      intro f
      cases f <;> assumption
    exact exec_nmt_parse_malformed (nmtResult_of_no_code (nmtFunctionOf_eq_none hcode) b1 p) s

end Sys2Proof.Machine
end

section
/-! PROOFS. The SDO Command Codec (43_sdo_command_codec.md R171, R172, R174): both decoders, an equation for each specifier, every
payload of the rows `SDO_REQ` and `SDO_RSP` parsed, and the end of a waiting transfer on a reserved specifier. -/

namespace Sys2Proof

/-! ## Payloads the decoders refuse (R171, R172, R174) -/

theorem decodeSdoReq_short {p : List Byte} (h : p.length < 8) : decodeSdoReq p = .error .malformedPayload := if_pos h

theorem decodeSdoRsp_short {p : List Byte} (h : p.length < 8) : decodeSdoRsp p = .error .malformedPayload := if_pos h

/-- Every arm of R171 that gives a form has a specifier below 5. -/
theorem decodeSdoReq_reserved {p : List Byte} (h : 5 ≤ (sdoSpecifier (byteAt p 0)).toNat) :
    decodeSdoReq p = .error .malformedPayload := by
  unfold decodeSdoReq
  split
  · rfl
  · dsimp only
    split
    case h_6 => rfl
    all_goals omega

/-- Every arm of R172 that gives a form has a specifier below 5. -/
theorem decodeSdoRsp_reserved {p : List Byte} (h : 5 ≤ (sdoSpecifier (byteAt p 0)).toNat) :
    decodeSdoRsp p = .error .malformedPayload := by
  unfold decodeSdoRsp
  split
  · rfl
  · dsimp only
    split
    case h_6 => rfl
    all_goals omega

/-- A specifier other than the five in use is one of the reserved 5, 6 and 7 (R174). -/
theorem five_le_specifier {cs : BitVec 3} (h0 : cs ≠ 0#3) (h1 : cs ≠ 1#3) (h2 : cs ≠ 2#3) (h3 : cs ≠ 3#3) (h4 : cs ≠ 4#3) :
    5 ≤ cs.toNat := by
  bv_omega

/-! ## Eight bytes, an equation for each specifier in use (R161 to R170) -/

@[simp] theorem byteAt_toList (b : Bytes8) :
    byteAt b.toList 0 = b.b0 ∧ byteAt b.toList 1 = b.b1 ∧ byteAt b.toList 2 = b.b2 ∧ byteAt b.toList 3 = b.b3 ∧
    byteAt b.toList 4 = b.b4 ∧ byteAt b.toList 5 = b.b5 ∧ byteAt b.toList 6 = b.b6 ∧ byteAt b.toList 7 = b.b7 :=
  ⟨rfl, rfl, rfl, rfl, rfl, rfl, rfl, rfl⟩

section
variable {b : Bytes8}

theorem decodeSdoReq_downloadSegReq (h : sdoSpecifier b.b0 = 0#3) : decodeSdoReq b.toList =
    .ok (.downloadSegReq (sdoT b.b0) (sdoSegN b.b0) (sdoC b.b0) ⟨b.b1, b.b2, b.b3, b.b4, b.b5, b.b6, b.b7⟩) := by
  simp [decodeSdoReq, h]

theorem decodeSdoReq_initDownloadReq (h : sdoSpecifier b.b0 = 1#3) : decodeSdoReq b.toList =
    .ok (.initDownloadReq (sdoInitN b.b0) (sdoE b.b0) (sdoS b.b0) (le16 b.b1 b.b2) b.b3 ⟨b.b4, b.b5, b.b6, b.b7⟩) := by
  simp [decodeSdoReq, h]

theorem decodeSdoReq_initUploadReq (h : sdoSpecifier b.b0 = 2#3) :
    decodeSdoReq b.toList = .ok (.initUploadReq (le16 b.b1 b.b2) b.b3) := by
  simp [decodeSdoReq, h]

theorem decodeSdoReq_uploadSegReq (h : sdoSpecifier b.b0 = 3#3) :
    decodeSdoReq b.toList = .ok (.uploadSegReq (sdoT b.b0)) := by
  simp [decodeSdoReq, h]

theorem decodeSdoReq_abort (h : sdoSpecifier b.b0 = 4#3) :
    decodeSdoReq b.toList = .ok (.abort (le16 b.b1 b.b2) b.b3 (le32 b.b4 b.b5 b.b6 b.b7)) := by
  simp [decodeSdoReq, h]

theorem decodeSdoRsp_uploadSegRsp (h : sdoSpecifier b.b0 = 0#3) : decodeSdoRsp b.toList =
    .ok (.uploadSegRsp (sdoT b.b0) (sdoSegN b.b0) (sdoC b.b0) ⟨b.b1, b.b2, b.b3, b.b4, b.b5, b.b6, b.b7⟩) := by
  simp [decodeSdoRsp, h]

theorem decodeSdoRsp_downloadSegRsp (h : sdoSpecifier b.b0 = 1#3) :
    decodeSdoRsp b.toList = .ok (.downloadSegRsp (sdoT b.b0)) := by
  simp [decodeSdoRsp, h]

theorem decodeSdoRsp_initUploadRsp (h : sdoSpecifier b.b0 = 2#3) : decodeSdoRsp b.toList =
    .ok (.initUploadRsp (sdoInitN b.b0) (sdoE b.b0) (sdoS b.b0) (le16 b.b1 b.b2) b.b3 ⟨b.b4, b.b5, b.b6, b.b7⟩) := by
  simp [decodeSdoRsp, h]

theorem decodeSdoRsp_initDownloadRsp (h : sdoSpecifier b.b0 = 3#3) :
    decodeSdoRsp b.toList = .ok (.initDownloadRsp (le16 b.b1 b.b2) b.b3) := by
  simp [decodeSdoRsp, h]

theorem decodeSdoRsp_abort (h : sdoSpecifier b.b0 = 4#3) :
    decodeSdoRsp b.toList = .ok (.abort (le16 b.b1 b.b2) b.b3 (le32 b.b4 b.b5 b.b6 b.b7)) := by
  simp [decodeSdoRsp, h]

end

/-! ## The node of a decoded payload (R104) -/

section
variable {p : List Byte} {cmd : SdoCommand} {e : ClassErr}

theorem sdoReqResult_ok (h : decodeSdoReq p = .ok cmd) (node : BitVec 7) :
    sdoReqResult node p = .ok (.sdoRequest (node8 node) cmd) :=
  congrArg (Except.map _) h

theorem sdoReqResult_error (h : decodeSdoReq p = .error e) (node : BitVec 7) : sdoReqResult node p = .error e :=
  congrArg (Except.map _) h

theorem sdoRspResult_ok (h : decodeSdoRsp p = .ok cmd) (node : BitVec 7) :
    sdoRspResult node p = .ok (.sdoResponse (node8 node) cmd) :=
  congrArg (Except.map _) h

theorem sdoRspResult_error (h : decodeSdoRsp p = .error e) (node : BitVec 7) : sdoRspResult node p = .error e :=
  congrArg (Except.map _) h

end

end Sys2Proof

namespace Sys2Proof.Machine

/-! ## The rows `SDO_REQ` and `SDO_RSP` on `PARSE` (R171, R172) -/

section
variable {p : List Byte} {cmd : SdoCommand} {e : ClassErr}

theorem exec_sdoReq_parse_ok (h : decodeSdoReq p = .ok cmd) (node : BitVec 7) (s : State) :
    exec (.sdoReq .parse node p) s = .next (s.parsed (.ok (.sdoRequest (node8 node) cmd))) :=
  exec_parse_ok rfl rfl (sdoReqResult_ok h node) s

theorem exec_sdoReq_parse_error (h : decodeSdoReq p = .error e) (node : BitVec 7) (s : State) :
    exec (.sdoReq .parse node p) s = .next (s.parsed (.err e)) :=
  exec_parse_error rfl rfl (sdoReqResult_error h node) s

theorem exec_sdoRsp_parse_ok (h : decodeSdoRsp p = .ok cmd) (node : BitVec 7) (s : State) :
    exec (.sdoRsp .parse node p) s = .next (s.parsed (.ok (.sdoResponse (node8 node) cmd))) :=
  exec_parse_ok rfl rfl (sdoRspResult_ok h node) s

theorem exec_sdoRsp_parse_error (h : decodeSdoRsp p = .error e) (node : BitVec 7) (s : State) :
    exec (.sdoRsp .parse node p) s = .next (s.parsed (.err e)) :=
  exec_parse_error rfl rfl (sdoRspResult_error h node) s

end

/-- Settles O46: the specifier is one of the five in use, each with its equation of `decodeSdoReq`, or it is reserved. -/
theorem sdoRequestParsed : Obligations.SdoRequestParsed := by
  intro s node b
  refine ⟨?_, fun p hp => exec_sdoReq_parse_error (decodeSdoReq_short hp) node s⟩
  split_ifs with h0 h1 h2 h3 h4
  · exact exec_sdoReq_parse_ok (decodeSdoReq_downloadSegReq h0) node s
  · exact exec_sdoReq_parse_ok (decodeSdoReq_initDownloadReq h1) node s
  · exact exec_sdoReq_parse_ok (decodeSdoReq_initUploadReq h2) node s
  · exact exec_sdoReq_parse_ok (decodeSdoReq_uploadSegReq h3) node s
  · exact exec_sdoReq_parse_ok (decodeSdoReq_abort h4) node s
  · have hreserved : 5 ≤ (sdoSpecifier (byteAt b.toList 0)).toNat := five_le_specifier h0 h1 h2 h3 h4
    exact exec_sdoReq_parse_error (decodeSdoReq_reserved hreserved) node s

/-- Settles O47: the specifier is one of the five in use, each with its equation of `decodeSdoRsp`, or it is reserved. -/
theorem sdoResponseParsed : Obligations.SdoResponseParsed := by
  intro s node b
  refine ⟨?_, fun p hp => exec_sdoRsp_parse_error (decodeSdoRsp_short hp) node s⟩
  split_ifs with h0 h1 h2 h3 h4
  · exact exec_sdoRsp_parse_ok (decodeSdoRsp_uploadSegRsp h0) node s
  · exact exec_sdoRsp_parse_ok (decodeSdoRsp_downloadSegRsp h1) node s
  · exact exec_sdoRsp_parse_ok (decodeSdoRsp_initUploadRsp h2) node s
  · exact exec_sdoRsp_parse_ok (decodeSdoRsp_initDownloadRsp h3) node s
  · exact exec_sdoRsp_parse_ok (decodeSdoRsp_abort h4) node s
  · have hreserved : 5 ≤ (sdoSpecifier (byteAt b.toList 0)).toNat := five_le_specifier h0 h1 h2 h3 h4
    exact exec_sdoRsp_parse_error (decodeSdoRsp_reserved hreserved) node s

/-! ## A refused frame received while waiting (R174, R193) -/

theorem receive_waits {s : State} (hw : s.x.Waits) (res : Except ClassErr Message) :
    receive res s = concludeRx s (onRx s.cfg s.x res) :=
  if_pos ((waiting_iff s.x).mpr hw)

/-- R193: the error is raised, and no frame is offered on which the bus's verdict could matter. -/
theorem exec_rx_error {i : Instr} {f : Form} {e : ClassErr} {s : State} (h : i.view = .frame f) (hport : f.port = .rx)
    (hres : f.result = .error e) (hw : s.x.Waits) : exec i s = .next (s.after (classFailure s.x e) none none) := by
  rw [exec_frame i f s h, hport, hres]
  exact receive_waits hw (.error e)

/-- Settles O10: neither decoder has an arm for the specifier, and the refused frame ends the transfer by `exec_rx_error`. -/
theorem reservedSpecifiersAreMalformed : Obligations.ReservedSpecifiersAreMalformed := by
  intro p _ hspec
  have hreq : decodeSdoReq p = .error .malformedPayload := decodeSdoReq_reserved hspec
  have hrsp : decodeSdoRsp p = .error .malformedPayload := decodeSdoRsp_reserved hspec
  refine ⟨hreq, hrsp, fun s node hw => ⟨?_, ?_⟩⟩
  · exact exec_rx_error (e := .malformedPayload) rfl rfl (sdoRspResult_error hrsp node) hw
  · exact exec_rx_error (e := .malformedPayload) rfl rfl (sdoReqResult_error hreq node) hw

end Sys2Proof.Machine
end

section
/-! PROOFS. The SDO Segment State Machine (44_sdo_state_machine.md R192 to R215): a step as the carrying out of its decoded event,
the events while nothing is awaited, and what ends a waiting transfer from outside. -/

namespace Sys2Proof.Machine

/-! ## A step carries out its decoded event (R190) -/

/-- What a step does with a decoded event, in the state that took it. -/
def carryOut (dec : Decoded) (u : State) : Host.Outcome State Fault Refusal :=
  match fetchDecoded dec u with
  | .noEvent => .fault .noEvent
  | .run i u1 => exec i u1
  | .done u1 => .next u1

theorem step_eq_carryOut {s : State} {d : Delivery} {rest : List Delivery} (hin : s.inputs = d :: rest) :
    step s = carryOut (decodeEvent d.ev) (s.took d rest) := by
  unfold step fetch
  rw [hin]
  rfl

theorem endTransfer_waits {s : State} (hw : s.x.Waits) (st : St) (k : ErrKind) :
    endTransfer s st k = s.after (raise s.x st k) none none :=
  if_pos ((waiting_iff s.x).mpr hw)

theorem endTransfer_not_waits {s : State} (hw : ¬ s.x.Waits) (st : St) (k : ErrKind) :
    endTransfer s st k = s.after s.x none none :=
  if_neg (mt (waiting_iff s.x).mp hw)

theorem receive_not_waits {s : State} (hw : ¬ s.x.Waits) (res : Except ClassErr Message) :
    receive res s = .next (s.after s.x none none) :=
  if_neg (mt (waiting_iff s.x).mp hw)

section
variable {s : State} {d : Delivery} {rest : List Delivery} (hin : s.inputs = d :: rest)
include hin

theorem step_timeout (hev : d.ev = .timeout) : step s = .next (endTransfer (s.took d rest) .timedOut .timeout) := by
  rw [step_eq_carryOut hin, hev]
  rfl

theorem step_rxIoError (hev : d.ev = .rxIoError) :
    step s = .next (endTransfer (s.took d rest) .error .transportError) := by
  rw [step_eq_carryOut hin, hev]
  rfl

theorem step_rx_waits {r : RawFrame} (hev : d.ev = .rx r) (hw : s.x.Waits) :
    step s = concludeRx (s.took d rest) (onRx s.cfg s.x (decodeMessage r)) :=
  (step_rx s d rest r hin hev).trans (receive_waits (s := s.took d rest) hw _)

end

/-- Settles O22: each of the three events is guarded by `waiting`. -/
theorem eventsOutsideTransferIgnored : Obligations.EventsOutsideTransferIgnored := by
  intro s d rest hin hw hev
  rcases hev with ⟨r, hrx⟩ | htimeout | hio
  · exact (step_rx s d rest r hin hrx).trans (receive_not_waits (s := s.took d rest) hw _)
  · rw [step_timeout hin htimeout, endTransfer_not_waits (s := s.took d rest) hw]
    rfl
  · rw [step_rxIoError hin hio, endTransfer_not_waits (s := s.took d rest) hw]
    rfl

/-- Settles O37: both events raise their error by `endTransfer`. -/
theorem timeoutAndReceiveFailure : Obligations.TimeoutAndReceiveFailure := by
  intro s d rest hin hw
  refine ⟨fun hev => ?_, fun hev => ?_⟩
  · rw [step_timeout hin hev, endTransfer_waits (s := s.took d rest) hw]
    rfl
  · rw [step_rxIoError hin hev, endTransfer_waits (s := s.took d rest) hw]
    rfl

/-! ## A frame that is no SDO response of the addressed node (R193 to R195) -/

/-- R194, R195: any other message ends the transfer, an abort of another node included. -/
theorem onRx_foreign {x : Xfer} {m : Message} (hm : ∀ cmd, m ≠ .sdoResponse (node8 x.node) cmd) (cfg : Cfg) :
    onRx cfg x (.ok m) = .ok (foreignFrame x, none) := by
  cases m with
  | sdoResponse node cmd =>
    have hnode : node ≠ node8 x.node := by
      rintro rfl
      exact hm cmd rfl
    exact if_pos hnode
  | nmt _ _ => rfl
  | sync => rfl
  | emcy _ _ _ _ => rfl
  | pdo _ _ _ => rfl
  | sdoRequest _ _ => rfl
  | heartbeat _ _ => rfl

theorem step_rx_foreign {s : State} {d : Delivery} {rest : List Delivery} {r : RawFrame} {m : Message}
    (hin : s.inputs = d :: rest) (hev : d.ev = .rx r) (hw : s.x.Waits) (hdec : decodeMessage r = .ok m)
    (hm : ∀ cmd, m ≠ .sdoResponse (node8 s.x.node) cmd) :
    step s = .next ((s.took d rest).after (foreignFrame s.x) none none) := by
  rw [step_rx_waits hin hev hw, hdec, onRx_foreign hm]
  rfl

theorem node8_toNat (nd : BitVec 7) : (node8 nd).toNat = nd.toNat := BitVec.toNat_setWidth_of_le (by decide)

/-- Settles O23: `decode`'s error is the first thing looked at. -/
theorem undecodableFrameEndsTransfer : Obligations.UndecodableFrameEndsTransfer := by
  intro s d rest r hin hev hw
  have hstep := step_rx_waits hin hev hw
  refine ⟨fun hdec => ?_, fun hdec => ?_⟩
  · rw [hstep, hdec]
    rfl
  · rw [hstep, hdec]
    rfl

/-- Settles O24: such a message is no response of the addressed node either. -/
theorem wrongKindEndsTransfer : Obligations.WrongKindEndsTransfer := by
  intro s d rest r m hin hev hw hdec hm
  exact step_rx_foreign hin hev hw hdec (hm _)

/-- Settles O25: the node is compared before the command is looked at. -/
theorem wrongNodeEndsTransfer : Obligations.WrongNodeEndsTransfer := by
  intro s d rest r node cmd hin hev hw hdec hnode
  refine step_rx_foreign hin hev hw hdec fun cmd' heq => hnode ?_
  obtain ⟨rfl, -⟩ := Message.sdoResponse.inj heq
  exact node8_toNat s.x.node

end Sys2Proof.Machine
end

section
/-! PROOFS. The response forms (44_sdo_state_machine.md R196 to R210): the frames the machine offers, one equation for each
operation in the state that expects its form, and what a response of the addressed node does while waiting. -/

namespace Sys2Proof.Machine

/-! ## The frames offered (R196, R205) -/

theorem sdoRequest_encode {cmd : SdoCommand} {b : Bytes8} (h : encodeSdo cmd = b.toList) (node : BitVec 7) :
    (Message.sdoRequest (node8 node) cmd).encode = requestFrame node b := by
  simp only [Message.encode, Message.payload, Message.cobId, Message.kind, Message.nodeOf, node7_node8, h]
  rfl

theorem req_abort (x : Xfer) (code : BitVec 32) : req x (.abort x.index x.sub code) = abortFrame x code := by
  refine sdoRequest_encode ?_ x.node
  have hb0 : plainByte 4#3 = 0x80#8 := by decide
  simp only [encodeSdo, sdoCs, hb0]
  rfl

theorem req_uploadSegReq (x : Xfer) (t : Bool) :
    req x (.uploadSegReq t) = requestFrame x.node ⟨3#3 ++ BitVec.ofBool t ++ 0#4, 0#8, 0#8, 0#8, 0#8, 0#8, 0#8, 0#8⟩ :=
  sdoRequest_encode rfl x.node

/-- Position `i` of `s[a .. a+k) ++ zeros(..)` (R9). -/
theorem byteAt_take_drop (s : List Byte) (a k i : Nat) :
    byteAt ((s.drop a).take k) i = if i < k then s.getD (a + i) 0#8 else 0#8 := by
  simp only [byteAt, List.getD_eq_getElem?_getD, List.getElem?_take, List.getElem?_drop]
  split <;> rfl

theorem segmentFrame_eq_req (y : Xfer) :
    segmentFrame y = req y (downloadSegment y (min 7 y.remaining.toNat)
      ((y.buf.drop (y.bufLen - y.remaining.toNat)).take (min 7 y.remaining.toNat))) := by
  refine (sdoRequest_encode ?_ y.node).symm
  simp only [downloadSegment, encodeSdo, Bytes7.padded, byteAt_take_drop]
  rfl

theorem afterSegment_remaining_toNat (y : Xfer) :
    (afterSegment y).remaining.toNat = y.remaining.toNat - min 7 y.remaining.toNat := by
  have hlt := y.remaining.isLt
  have hk : (BitVec.ofNat 32 (min 7 y.remaining.toNat)).toNat = min 7 y.remaining.toNat := by
    rw [BitVec.toNat_ofNat, Nat.mod_eq_of_lt (by omega)]
  rw [afterSegment_remaining, BitVec.toNat_sub_of_le (by rw [BitVec.le_def, hk]; omega), hk]

theorem afterSegment_eq (y : Xfer) :
    afterSegment y = { y with remaining := BitVec.ofNat 32 (y.remaining.toNat - min 7 y.remaining.toNat) } := by
  rw [← afterSegment_remaining_toNat, BitVec.ofNat_toNat, BitVec.setWidth_eq]
  rfl

/-- R205 inside the buffer; outside it there is no such read (R55). -/
theorem sendSegment_eq {y : Xfer} (hlen : y.bufLen = y.buf.length) (hrem : y.remaining.toNat ≤ y.bufLen) :
    sendSegment y = .ok (afterSegment y, some (segmentFrame y)) := by
  have hread := memRead_inside y (y.bufLen - y.remaining.toNat) (min 7 y.remaining.toNat) hlen (by omega)
  simp only [sendSegment, if_pos hrem, hread, afterSegment_eq, segmentFrame_eq_req]

theorem segmentFrame_b0 (y : Xfer) :
    (segmentFrame y).data.b0 = segDataByte 0#3 y.toggle (BitVec.ofNat 3 (7 - min 7 y.remaining.toNat))
      (decide (y.remaining.toNat = min 7 y.remaining.toNat)) := rfl

/-- Settles O30: `sendSegment_eq`, and the fields of the command byte read back. -/
theorem segmentSent : Obligations.SegmentSent := by
  intro y hlen _ hrem
  have hc : (segmentFrame y).data.b0.getLsbD 0 = decide (y.remaining.toNat = min 7 y.remaining.toNat) :=
    (segmentFrame_b0 y).symm ▸ sdoC_segDataByte ..
  have hn : (segmentFrame y).data.b0.extractLsb' 1 3 = BitVec.ofNat 3 (7 - min 7 y.remaining.toNat) :=
    (segmentFrame_b0 y).symm ▸ sdoSegN_segDataByte ..
  have ht : (segmentFrame y).data.b0.getLsbD 4 = y.toggle := (segmentFrame_b0 y).symm ▸ sdoT_segDataByte ..
  refine ⟨sendSegment_eq hlen hrem, afterSegment_remaining_toNat y, ?_, fun hlast => ?_, ht⟩
  · rw [hc, decide_eq_true_iff, ← BitVec.toNat_inj, afterSegment_remaining_toNat, BitVec.toNat_zero]
    omega
  · rw [hc, decide_eq_false_iff_not] at hlast
    have hk : min 7 y.remaining.toNat = 7 := by omega
    rw [hn, hk]

/-! ## A response of the addressed node (R198 to R200) -/

theorem onRx_response (cfg : Cfg) (x : Xfer) (cmd : SdoCommand) :
    onRx cfg x (.ok (.sdoResponse (node8 x.node) cmd)) = onResponse cfg x cmd :=
  if_neg (not_not.mpr rfl)

theorem exec_response {s : State} {i : Instr} {cmd : SdoCommand} (hw : s.x.Waits)
    (hv : i.view = .frame (.ofMessage .rx (.sdoResponse (node8 s.x.node) cmd))) :
    exec i s = concludeRx s (onResponse s.cfg s.x cmd) := by
  rw [exec_frame i _ s hv, ← onRx_response]
  exact receive_waits hw _

theorem concludeRx_silent (s : State) (x1 : Xfer) : concludeRx s (.ok (x1, none)) = .next (s.after x1 none none) := rfl

theorem concludeRx_offer (s : State) (x1 : Xfer) (f : RawFrame) :
    concludeRx s (.ok (x1, some f)) = .next (s.afterOffer x1 f none) :=
  congrArg Host.Outcome.next (emit_finish_some s x1 f none)

theorem concludeRx_sendSegment (s : State) {y : Xfer} (hlen : y.bufLen = y.buf.length)
    (hrem : y.remaining.toNat ≤ y.bufLen) :
    concludeRx s (sendSegment y) = .next (s.afterOffer (afterSegment y) (segmentFrame y) none) := by
  rw [sendSegment_eq hlen hrem, concludeRx_offer]

section
variable {x : Xfer} (cfg : Cfg)

theorem onInitDownloadRsp_expected (hs : x.st = .initiating) (hd : x.dir = .download) (index : BitVec 16) (sub : Byte) :
    onInitDownloadRsp cfg x index sub =
      if index ≠ x.index ∨ sub ≠ x.sub then .ok (uninterpretable cfg x)
      else if x.exp then .ok ({ x with st := .done }, none)
      else sendSegment { x with st := .segmenting, toggle := false } := by
  simp only [onInitDownloadRsp, hs, hd]

theorem onInitUploadRsp_expected (hs : x.st = .initiating) (hd : x.dir = .upload) (n : BitVec 2) (e sInd : Bool)
    (index : BitVec 16) (sub : Byte) (d : Bytes4) :
    onInitUploadRsp cfg x n e sInd index sub d =
      if index ≠ x.index ∨ sub ≠ x.sub then .ok (uninterpretable cfg x)
      else if e then .ok (acceptExpedited x n sInd d, none)
      else .ok (acceptSegmented x sInd d, some (req x (.uploadSegReq false))) := by
  simp only [onInitUploadRsp, hs, hd]

theorem onDownloadSegRsp_expected (hs : x.st = .segmenting) (hd : x.dir = .download) (t : Bool) :
    onDownloadSegRsp cfg x t =
      if t ≠ x.toggle then .ok (toggleMismatch x)
      else if x.remaining = 0#32 then .ok ({ x with st := .done }, none)
      else sendSegment { x with toggle := !x.toggle } := by
  simp only [onDownloadSegRsp, hs, hd]

/-- The record of an upload after `k` bytes were appended (R207). -/
def appendSegment (x : Xfer) (k : Nat) (d : Bytes7) : Xfer :=
  { x with
    buf := x.buf ++ d.toList.take k
    bufLen := x.bufLen + k
    remaining := BitVec.ofNat 32 (x.remaining.toNat - k) }

theorem onUploadSegRsp_expected (hs : x.st = .segmenting) (hd : x.dir = .upload) (t : Bool) (n : BitVec 3) (c : Bool)
    (d : Bytes7) :
    onUploadSegRsp cfg x t n c d =
      if t ≠ x.toggle then .ok (toggleMismatch x)
      else if cfg.bufMax < x.bufLen + segLen n c then .ok (abortOut x cfg.overflowAbortCode .bufferOverflow)
      else if c then .ok ({ appendSegment x (segLen n c) d with st := .done }, none)
      else .ok ({ appendSegment x (segLen n c) d with toggle := !x.toggle }, some (req x (.uploadSegReq (!x.toggle)))) := by
  simp only [onUploadSegRsp, hs, hd, memWrite, take_segLen_length, appendSegment]
  by_cases hfit : x.bufLen + segLen n c ≤ cfg.bufMax
  · simp only [if_pos hfit, if_neg (Nat.not_lt.mpr hfit)]
    rfl
  · simp only [if_neg hfit, if_pos (Nat.lt_of_not_le hfit)]

/-- R199 and R200: the form is not the expected one, or it echoes another address. -/
theorem onResponse_uninterpretable {cmd : SdoCommand} (hcmd : ∀ index sub code, cmd ≠ .abort index sub code)
    (h : ¬ expectedForm x cmd ∨ otherAddress x cmd) : onResponse cfg x cmd = .ok (uninterpretable cfg x) := by
  cases cmd with
  | abort index sub code => exact absurd rfl (hcmd index sub code)
  | initDownloadReq _ _ _ _ _ _ => rfl
  | initUploadReq _ _ => rfl
  | downloadSegReq _ _ _ _ => rfl
  | uploadSegReq _ => rfl
  | initDownloadRsp index sub =>
    simp only [onResponse, onInitDownloadRsp]
    split
    · exact if_pos (h.resolve_left (not_not.mpr ⟨‹_›, ‹_›⟩))
    all_goals rfl
  | initUploadRsp n e sInd index sub d =>
    simp only [onResponse, onInitUploadRsp]
    split
    · exact if_pos (h.resolve_left (not_not.mpr ⟨‹_›, ‹_›⟩))
    all_goals rfl
  | downloadSegRsp t =>
    simp only [onResponse, onDownloadSegRsp]
    split
    · exact (h.resolve_left (not_not.mpr ⟨‹_›, ‹_›⟩)).elim
    all_goals rfl
  | uploadSegRsp t n c d =>
    simp only [onResponse, onUploadSegRsp]
    split
    · exact (h.resolve_left (not_not.mpr ⟨‹_›, ‹_›⟩)).elim
    all_goals rfl

end

/-- R199 while waiting: the abort frame is offered, R216 applied. -/
theorem exec_uninterpretable {s : State} {i : Instr} {cmd : SdoCommand} (hw : s.x.Waits)
    (hv : i.view = .frame (.ofMessage .rx (.sdoResponse (node8 s.x.node) cmd)))
    (hcmd : ∀ index sub code, cmd ≠ .abort index sub code) (h : ¬ expectedForm s.x cmd ∨ otherAddress s.x cmd) :
    exec i s = .next (s.afterOffer
      { s.x with st := .aborted, err := .unexpectedResponse, abortCode := s.cfg.localAbortCode }
      (abortFrame s.x s.cfg.localAbortCode) none) := by
  rw [exec_response hw hv, onResponse_uninterpretable s.cfg hcmd h, ← req_abort]
  exact concludeRx_offer ..

theorem receivedResponse_some {node : BitVec 7} {cmd : SdoCommand} {i : Instr} (h : receivedResponse node cmd = some i) :
    i.view = .frame (.ofMessage .rx (.sdoResponse (node8 node) cmd)) ∧ ∀ index sub code, cmd ≠ .abort index sub code := by
  cases cmd <;> cases h <;> exact ⟨rfl, by simp⟩

/-- Settles O27: a form other than the expected one is not interpreted. -/
theorem uninterpretableResponseAborts : Obligations.UninterpretableResponseAborts := by
  intro s cmd i hw hi hform
  obtain ⟨hv, hcmd⟩ := receivedResponse_some hi
  exact exec_uninterpretable hw hv hcmd (.inl hform)

/-- Settles O28: the same operation as for an unexpected form. -/
theorem wrongAddressEchoAborts : Obligations.WrongAddressEchoAborts := by
  intro s index sub hs haddr
  exact ⟨fun _ => exec_uninterpretable (.inl hs) rfl (by simp) (.inr haddr),
    fun _ n e sInd d => exec_uninterpretable (.inl hs) rfl (by simp) (.inr haddr)⟩

/-- Settles O26: the abort is the first form looked at, whatever its address. -/
theorem remoteAbortEndsTransfer : Obligations.RemoteAbortEndsTransfer := by
  intro s index sub code hw
  exact exec_response (cmd := .abort index sub code) hw rfl

/-! ## The expected forms (R201 to R210) -/

/-- Settles O29: the address is the transfer's own, so `exp` decides. -/
theorem initiateDownloadAcknowledged : Obligations.InitiateDownloadAcknowledged := by
  intro s hs hd
  have hexec := exec_response (i := .sdoDlInitRsp .rx s.x.node s.x.index s.x.sub) (.inl hs) rfl
  simp only [onResponse, onInitDownloadRsp_expected s.cfg hs hd, ne_eq, not_true_eq_false, or_self, if_false] at hexec
  refine ⟨fun hexp => ?_, fun hexp hlen hrem => ?_⟩
  · rw [hexec, if_pos hexp]
    exact concludeRx_silent ..
  · rw [hexec, if_neg (by simp [hexp])]
    exact concludeRx_sendSegment s hlen hrem

/-- Settles O31: the toggle is the current one, so `remaining` decides. -/
theorem downloadSegmentAcknowledged : Obligations.DownloadSegmentAcknowledged := by
  intro s hs hd
  have hexec := exec_response (i := .sdoDlSegRsp .rx s.x.node s.x.toggle) (.inr hs) rfl
  simp only [onResponse, onDownloadSegRsp_expected s.cfg hs hd, ne_eq, not_true_eq_false, if_false] at hexec
  refine ⟨fun hzero => ?_, fun hzero hlen hrem => ?_⟩
  · rw [hexec, if_pos hzero]
    exact concludeRx_silent ..
  · rw [hexec, if_neg hzero]
    exact concludeRx_sendSegment s hlen hrem

/-- Settles O32: the address is the transfer's own, and `e` is 1. -/
theorem expeditedUploadCompletes : Obligations.ExpeditedUploadCompletes := by
  intro s n sInd d hs hd
  have hexec := exec_response (i := .sdoUlInitRsp .rx s.x.node n true sInd s.x.index s.x.sub d) (.inl hs) rfl
  simp only [onResponse, onInitUploadRsp_expected s.cfg hs hd, ne_eq, not_true_eq_false, or_self, if_false, if_true] at hexec
  exact hexec.trans (concludeRx_silent ..)

/-- Settles O33: the address is the transfer's own, and `e` is 0. -/
theorem segmentedUploadStarts : Obligations.SegmentedUploadStarts := by
  intro s n sInd d hs hd
  have hexec := exec_response (i := .sdoUlInitRsp .rx s.x.node n false sInd s.x.index s.x.sub d) (.inl hs) rfl
  simp only [onResponse, onInitUploadRsp_expected s.cfg hs hd, ne_eq, not_true_eq_false, or_self, if_false,
    Bool.false_eq_true, req_uploadSegReq] at hexec
  exact hexec.trans (concludeRx_offer ..)

/-- An upload segment with the right toggle: the space test, then `c` (R207 to R209). -/
theorem exec_uploadSegment {s : State} (hs : s.x.st = .segmenting) (hd : s.x.dir = .upload) (n : BitVec 3) (c : Bool)
    (d : Bytes7) :
    exec (.sdoUlSegRsp .rx s.x.node s.x.toggle n c d) s = concludeRx s
      (if s.cfg.bufMax < s.x.bufLen + segLen n c then .ok (abortOut s.x s.cfg.overflowAbortCode .bufferOverflow)
      else if c then .ok ({ appendSegment s.x (segLen n c) d with st := .done }, none)
      else .ok ({ appendSegment s.x (segLen n c) d with toggle := !s.x.toggle },
        some (req s.x (.uploadSegReq (!s.x.toggle))))) := by
  rw [exec_response (.inr hs) rfl, onResponse, onUploadSegRsp_expected s.cfg hs hd, if_neg (not_not.mpr rfl)]

/-- Settles O34: the segment passes the space test, so `c` decides. -/
theorem uploadSegmentAppended : Obligations.UploadSegmentAppended := by
  intro s n c d k hs hd hk hfit
  obtain rfl : k = segLen n c := hk
  have hexec := exec_uploadSegment hs hd n c d
  rw [if_neg (Nat.not_lt.mpr hfit)] at hexec
  refine ⟨fun hc => ?_, fun hc => ?_⟩
  · rw [hexec, if_pos hc]
    exact concludeRx_silent ..
  · rw [hexec, if_neg (by simp [hc]), req_uploadSegReq]
    exact concludeRx_offer ..

/-- Settles O35: the segment fails the space test, before anything is appended. -/
theorem uploadOverflowAborts : Obligations.UploadOverflowAborts := by
  intro s n c d hs hd hover
  have hspace : s.cfg.bufMax < s.x.bufLen + segLen n c := hover
  rw [exec_uploadSegment hs hd, if_pos hspace, ← req_abort]
  exact concludeRx_offer ..

/-- Settles O36: the toggle is compared before the data are looked at. -/
theorem toggleMismatchEndsTransfer : Obligations.ToggleMismatchEndsTransfer := by
  intro s hs
  have htoggle : (!s.x.toggle) ≠ s.x.toggle := Bool.not_ne_self _
  refine ⟨fun hd => ?_, fun hd n c d => ?_⟩
  · rw [exec_response (.inr hs) rfl, onResponse, onDownloadSegRsp_expected s.cfg hs hd, if_pos htoggle]
    exact concludeRx_silent ..
  · rw [exec_response (.inr hs) rfl, onResponse, onUploadSegRsp_expected s.cfg hs hd, if_pos htoggle]
    exact concludeRx_silent ..

end Sys2Proof.Machine
end

section
/-! PROOFS. The machine's step is the step function of the spec (44_sdo_state_machine.md R222, 45_host_commands.md R240 to R244):
a received frame by the response's form, a host command by its opcode, then the four events. -/

namespace Sys2Proof.Machine

/-- The state that `u` ends a step of the spec in. -/
def State.afterRef (u : State) (r : Ref) : State := u.after r.x r.tx r.resp

/-! ## A received frame (R193 to R210) -/

theorem sendSegment_eq_ref {y : Xfer} (hlen : y.bufLen = y.buf.length) (hrem : y.remaining.toNat ≤ y.bufLen) :
    sendSegment y = .ok (Ref.sendSegment y) := by
  have hslice (a k : Nat) : Ref.slice y.buf a (a + k) = (y.buf.drop a).take k := by
    rw [Ref.slice, Nat.add_sub_cancel_left]
  rw [sendSegment_eq hlen hrem, afterSegment_eq, segmentFrame_eq_req]
  simp only [Ref.sendSegment, hslice]
  rfl

theorem ref_onResponse_unexpected {x : Xfer} {cmd : SdoCommand} (h : ¬ expectedForm x cmd) (cfg : Cfg) :
    Ref.onResponse cfg x cmd = uninterpretable cfg x := by
  unfold Ref.onResponse
  split
  case h_5 => rfl
  all_goals exact absurd ⟨‹_›, ‹_›⟩ h

/-- The part of R40 that a download reads its segments by: the count lies inside the buffer. -/
abbrev Xfer.CountFits (x : Xfer) : Prop := x.bufLen = x.buf.length ∧ (x.dir = .download → x.remaining.toNat ≤ x.bufLen)

section
variable {x : Xfer} (cfg : Cfg)

theorem onInitDownloadRsp_eq_ref (hx : x.CountFits) (hs : x.st = .initiating) (hd : x.dir = .download)
    (index : BitVec 16) (sub : Byte) :
    onInitDownloadRsp cfg x index sub = .ok (Ref.onResponse cfg x (.initDownloadRsp index sub)) := by
  rw [onInitDownloadRsp_expected cfg hs hd]
  simp only [Ref.onResponse, hs, hd]
  split_ifs
  · rfl
  · rfl
  · exact sendSegment_eq_ref hx.1 (hx.2 hd)

theorem onInitUploadRsp_eq_ref (hs : x.st = .initiating) (hd : x.dir = .upload) (n : BitVec 2) (e sInd : Bool)
    (index : BitVec 16) (sub : Byte) (d : Bytes4) :
    onInitUploadRsp cfg x n e sInd index sub d = .ok (Ref.onResponse cfg x (.initUploadRsp n e sInd index sub d)) := by
  rw [onInitUploadRsp_expected cfg hs hd]
  simp only [Ref.onResponse, acceptExpedited, acceptSegmented, hs, hd]
  split_ifs <;> rfl

theorem onDownloadSegRsp_eq_ref (hx : x.CountFits) (hs : x.st = .segmenting) (hd : x.dir = .download) (t : Bool) :
    onDownloadSegRsp cfg x t = .ok (Ref.onResponse cfg x (.downloadSegRsp t)) := by
  rw [onDownloadSegRsp_expected cfg hs hd]
  simp only [Ref.onResponse, hs, hd]
  split_ifs
  · rfl
  · rfl
  · exact sendSegment_eq_ref hx.1 (hx.2 hd)

theorem onUploadSegRsp_eq_ref (hs : x.st = .segmenting) (hd : x.dir = .upload) (t : Bool) (n : BitVec 3) (c : Bool)
    (d : Bytes7) : onUploadSegRsp cfg x t n c d = .ok (Ref.onResponse cfg x (.uploadSegRsp t n c d)) := by
  have hcount (r k : Nat) : (max ((r : Int) - k) 0).toNat = r - k := by omega
  rw [onUploadSegRsp_expected cfg hs hd]
  simp only [Ref.onResponse, appendSegment, hs, hd, hcount]
  split_ifs <;> rfl

/-- Every response but an abort: the expected form of each state and direction, and the rest together. -/
theorem onResponse_eq_ref (hx : x.CountFits) {cmd : SdoCommand} (hcmd : ∀ index sub code, cmd ≠ .abort index sub code) :
    onResponse cfg x cmd = .ok (Ref.onResponse cfg x cmd) := by
  by_cases h : expectedForm x cmd
  · cases cmd with
    | initDownloadRsp index sub => exact onInitDownloadRsp_eq_ref cfg hx h.1 h.2 index sub
    | initUploadRsp n e sInd index sub d => exact onInitUploadRsp_eq_ref cfg h.1 h.2 n e sInd index sub d
    | downloadSegRsp t => exact onDownloadSegRsp_eq_ref cfg hx h.1 h.2 t
    | uploadSegRsp t n c d => exact onUploadSegRsp_eq_ref cfg h.1 h.2 t n c d
    | abort _ _ _ => exact h.elim
    | initDownloadReq _ _ _ _ _ _ => exact h.elim
    | initUploadReq _ _ => exact h.elim
    | downloadSegReq _ _ _ _ => exact h.elim
    | uploadSegReq _ => exact h.elim
  · rw [onResponse_uninterpretable cfg hcmd (.inl h), ref_onResponse_unexpected h]

theorem onRx_eq_ref (hx : x.CountFits) (r : RawFrame) : onRx cfg x (decodeMessage r) = .ok (Ref.onRx cfg x r) := by
  unfold Ref.onRx
  split
  case h_1 h => rw [h]; rfl
  case h_2 h => rw [h]; rfl
  case h_3 node cmd h =>
    rw [h]
    by_cases hnode : node = node8 x.node
    · subst hnode
      rw [onRx_response, if_neg (not_not.mpr rfl)]
      split
      · rfl
      case h_2 hcmd => exact onResponse_eq_ref cfg hx hcmd
    · rw [if_pos hnode]
      exact if_pos hnode
  case h_4 m hm h =>
    rw [h, onRx_foreign fun cmd => hm _ cmd]
    rfl

end

theorem concludeRx_ok_eq_ref (u : State) (p : Xfer × Option RawFrame) :
    concludeRx u (.ok p) = .next (u.afterRef (Ref.finish p u.txOk)) := by
  obtain ⟨x1, tx⟩ := p
  cases tx with
  | none => rfl
  | some f =>
    rw [concludeRx_offer]
    simp only [Ref.finish, State.afterOffer, State.afterRef]
    split <;> rfl

/-! ## A host command (R240 to R244) -/

section
variable {u : State} {m : Message} {node : BitVec 8} {index : BitVec 16} {sub : Byte} {data : List Byte}

theorem execSend_busy (hw : u.x.Waits) : execSend m u = .next (refuse u .busy) := if_pos ((waiting_iff u.x).mpr hw)

theorem execSend_badMessage (hw : ¬ u.x.Waits) (hm : m.wf = false) : execSend m u = .next (refuse u .badMessage) :=
  (if_neg (mt (waiting_iff u.x).mp hw)).trans (if_neg (by simp [hm]))

theorem execSend_offer (hw : ¬ u.x.Waits) (hm : m.wf = true) : execSend m u =
    .next (u.after u.x (some m.encode) (some (if u.txOk then .accepted else .failedTransportError))) :=
  (if_neg (mt (waiting_iff u.x).mp hw)).trans (if_pos hm)

theorem start_eq_afterOffer (u : State) (x1 : Xfer) (cmd : SdoCommand) :
    start u x1 cmd = u.afterOffer x1 (req x1 cmd) (some .accepted) :=
  emit_finish_some u x1 (req x1 cmd) (some .accepted)

/-- A node number that passed its test is the new record's node field, widened (R11). -/
theorem newTransfer_req {x1 : Xfer} (hnode : isNodeId node = true) (hx1 : x1.node = node7 node) (cmd : SdoCommand) :
    req x1 cmd = (Message.sdoRequest node cmd).encode := by
  rw [req, hx1, node8_node7 node ((isNodeId_iff node).mp hnode).2]

theorem execSdoRead_badNode (hst : u.x.st = .idle) (hnode : isNodeId node = false) :
    execSdoRead node index sub u = .next (refuse u .badNode) :=
  (if_neg (not_not.mpr hst)).trans (if_neg (by simp [hnode]))

theorem execSdoRead_accepted (hst : u.x.st = .idle) (hnode : isNodeId node = true) :
    execSdoRead node index sub u = .next (u.afterOffer (newUpload node index sub)
      (Message.sdoRequest node (.initUploadReq index sub)).encode (some .accepted)) := by
  rw [← newTransfer_req (x1 := newUpload node index sub) hnode rfl, ← start_eq_afterOffer]
  exact (if_neg (not_not.mpr hst)).trans (if_pos hnode)

theorem execSdoWrite_badNode (hst : u.x.st = .idle) (hnode : isNodeId node = false) :
    execSdoWrite node index sub data u = .next (refuse u .badNode) :=
  (if_neg (not_not.mpr hst)).trans (if_neg (by simp [hnode]))

theorem execSdoWrite_badLength (hst : u.x.st = .idle) (hnode : isNodeId node = true)
    (hlen : data.length = 0 ∨ u.cfg.bufMax < data.length) :
    execSdoWrite node index sub data u = .next (refuse u .badLength) :=
  (if_neg (not_not.mpr hst)).trans ((if_pos hnode).trans (if_pos hlen))

theorem execSdoWrite_accepted (hst : u.x.st = .idle) (hnode : isNodeId node = true)
    (hlen : ¬ (data.length = 0 ∨ u.cfg.bufMax < data.length)) :
    execSdoWrite node index sub data u = .next (u.afterOffer (newDownload node index sub data)
      (Message.sdoRequest node (initDownload (newDownload node index sub data))).encode (some .accepted)) := by
  rw [← newTransfer_req (x1 := newDownload node index sub data) hnode rfl, ← start_eq_afterOffer]
  exact (if_neg (not_not.mpr hst)).trans ((if_pos hnode).trans (if_neg hlen))

theorem execAck_terminal (hterm : u.x.terminal = true) : execAck u = .next (u.after .x0 none (some .accepted)) :=
  if_pos hterm

theorem execAck_not_terminal (hterm : ¬ u.x.terminal = true) : execAck u = .next (refuse u .nothingToAck) :=
  if_neg hterm

end

/-- A new transfer whose initiate frame the bus does not take: `abort_code` was 0 already (R216, R242, R243). -/
theorem afterOffer_eq_ref (u : State) {x1 : Xfer} (hcode : x1.abortCode = 0#32) (f : RawFrame) (resp : Option HostResponse) :
    u.afterOffer x1 f resp = u.afterRef (if u.txOk = true then ⟨x1, some f, resp⟩
      else ⟨{ x1 with st := .error, err := .transportError }, some f, resp⟩) := by
  simp only [State.afterOffer, ← hcode]
  split <;> rfl

/-- The spec's test of a node number is the machine's. -/
theorem isNodeId_eq_false_iff (node : BitVec 8) : isNodeId node = false ↔ node = 0#8 ∨ 127 < node.toNat := by
  rw [← Bool.not_eq_true, isNodeId_iff, ← BitVec.toNat_inj, BitVec.toNat_zero]
  omega

theorem isNodeId_of_not {node : BitVec 8} (h : ¬ (node = 0#8 ∨ 127 < node.toNat)) : isNodeId node = true := by
  simpa using mt (isNodeId_eq_false_iff node).mp h

section
variable (u : State)

theorem execSend_eq_ref (m : Message) : execSend m u = .next (u.afterRef (Ref.cmdSend u.x m u.txOk)) := by
  unfold Ref.cmdSend
  split
  next hw => exact execSend_busy hw
  next hw =>
    split
    next hm => exact execSend_badMessage hw hm
    next hm => exact execSend_offer hw (by simpa using hm)

theorem execSdoRead_eq_ref (node : BitVec 8) (index : BitVec 16) (sub : Byte) :
    execSdoRead node index sub u = .next (u.afterRef (Ref.cmdRead u.x node index sub u.txOk)) := by
  unfold Ref.cmdRead
  split
  next hst => exact execSdoRead_notIdle hst node index sub
  next hst =>
    split
    next hnode => exact execSdoRead_badNode (not_not.mp hst) ((isNodeId_eq_false_iff node).mpr hnode)
    next hnode =>
      rw [execSdoRead_accepted (not_not.mp hst) (isNodeId_of_not hnode), afterOffer_eq_ref u rfl]
      rfl

theorem execSdoWrite_eq_ref (node : BitVec 8) (index : BitVec 16) (sub : Byte) (data : List Byte) :
    execSdoWrite node index sub data u = .next (u.afterRef (Ref.cmdWrite u.cfg u.x node index sub data u.txOk)) := by
  unfold Ref.cmdWrite
  dsimp only
  split
  next hst => exact execSdoWrite_notIdle hst node index sub data
  next hst =>
    split
    next hnode => exact execSdoWrite_badNode (not_not.mp hst) ((isNodeId_eq_false_iff node).mpr hnode)
    next hnode =>
      split
      next hlen => exact execSdoWrite_badLength (not_not.mp hst) (isNodeId_of_not hnode) hlen
      next hlen =>
        rw [execSdoWrite_accepted (not_not.mp hst) (isNodeId_of_not hnode) hlen, afterOffer_eq_ref u rfl]
        rfl

theorem execAck_eq_ref : execAck u = .next (u.afterRef (Ref.cmdAck u.x)) := by
  unfold Ref.cmdAck
  split
  next hterm => exact execAck_terminal ((terminal_iff u.x).mpr hterm)
  next hterm => exact execAck_not_terminal (mt (terminal_iff u.x).mp hterm)

/-- The opcodes of R85, and those above them (R246). -/
theorem carryOut_cmd_eq_ref (c : RawCmd) :
    carryOut (decodeCmd c) u = .next (u.afterRef (Ref.hostCmd u.cfg u.x c u.txOk)) := by
  have hop (n : BitVec 3) (h : c.op.toNat = n.toNat) : c.op = n := BitVec.eq_of_toNat_eq h
  unfold decodeCmd Ref.hostCmd
  split
  case h_1 h => rw [if_pos (hop 0#3 h)]; rfl
  case h_2 h => rw [hop 1#3 h]; exact execSend_eq_ref u c.msg
  case h_3 h => rw [hop 2#3 h]; exact execSdoRead_eq_ref u c.node c.index c.sub
  case h_4 h => rw [hop 3#3 h]; exact execSdoWrite_eq_ref u c.node c.index c.sub c.data
  case h_5 h => rw [hop 4#3 h]; exact execAck_eq_ref u
  case h_6 h0 h1 h2 h3 h4 =>
    have hne (n : BitVec 3) (h : c.op.toNat ≠ n.toNat) : c.op ≠ n := fun heq => h (congrArg BitVec.toNat heq)
    rw [if_neg (hne 0#3 h0), if_neg (hne 1#3 h1), if_neg (hne 2#3 h2), if_neg (hne 3#3 h3), if_neg (hne 4#3 h4)]
    rfl

end

/-! ## The four events (R222) -/

theorem step_rx_eq_ref {s : State} {d : Delivery} {rest : List Delivery} {r : RawFrame} (hx : s.x.CountFits)
    (hin : s.inputs = d :: rest) (hev : d.ev = .rx r) :
    step s = .next ((s.took d rest).afterRef
      (if s.x.Waits then Ref.finish (Ref.onRx s.cfg s.x r) d.txOk else ⟨s.x, none, none⟩)) := by
  split
  · rw [step_rx_waits hin hev ‹_›, onRx_eq_ref s.cfg hx r]
    exact concludeRx_ok_eq_ref (s.took d rest) _
  · exact (step_rx s d rest r hin hev).trans (receive_not_waits (s := s.took d rest) ‹_› _)

theorem endTransfer_eq_ref (u : State) (st : St) (k : ErrKind) :
    endTransfer u st k = u.afterRef (if u.x.Waits then ⟨Ref.fail u.x st k, none, none⟩ else ⟨u.x, none, none⟩) := by
  split
  · exact endTransfer_waits ‹_› st k
  · exact endTransfer_not_waits ‹_› st k

theorem State.Inv.countFits {s : State} (hi : s.Inv) : s.x.CountFits :=
  ⟨hi.xfer.bufLen_is_length, fun hd => (hi.xfer.download_counts hd).1⟩

/-- Settles O13: event by event; R40 (c) and (d) are what a download reads its segments by. -/
theorem stepIsTheSpecsStep : Obligations.StepIsTheSpecsStep := by
  intro s d rest r hi hin href
  obtain ⟨ev, txOk⟩ := d
  cases ev with
  | cmd c =>
    cases href
    exact (step_eq_carryOut hin).trans (carryOut_cmd_eq_ref _ c)
  | rx f =>
    cases href
    exact step_rx_eq_ref hi.countFits hin rfl
  | timeout =>
    cases href
    exact (step_timeout hin rfl).trans (congrArg _ (endTransfer_eq_ref _ .timedOut .timeout))
  | rxIoError =>
    cases href
    exact (step_rxIoError hin rfl).trans (congrArg _ (endTransfer_eq_ref _ .error .transportError))
  | parse f => cases href
  | pack m => cases href
  | reset => cases href

end Sys2Proof.Machine
end

section
/-! PROOFS. The bus's verdict (44_sdo_state_machine.md R216): the ways a step can use it, said once for every step but `SEND`,
which answers with it, and the obligation. -/

namespace Sys2Proof.Machine

/-- `u` with another verdict of the bus. -/
def State.verdict (u : State) (ok : Bool) : State := { u with txOk := ok }

/-- The ways `run` can use the verdict in the state `u`. -/
inductive VerdictUse (run : State → Host.Outcome State Fault Refusal) (u : State) : Prop where
  /-- No frame is offered, and the verdict is not looked at. -/
  | unread (t : State) (htx : t.tx = none) (hrun : ∀ ok, run (u.verdict ok) = .next (t.verdict ok))
  /-- A frame is offered, R216 applied; the transfer is not complete. -/
  | offered (x1 : Xfer) (f : RawFrame) (resp : Option HostResponse) (hx1 : x1.st ≠ .done)
    (hrun : ∀ ok, run (u.verdict ok) = .next ((u.verdict ok).afterOffer x1 f resp))
  /-- The machine stops (R55). -/
  | stopped (hrun : ∀ ok t, run (u.verdict ok) ≠ .next t)

/-! ## A received frame -/

/-- A response that is answered with a frame does not complete the transfer (R217). -/
theorem ResponseCase.offer_st_ne_done {cfg : Cfg} {x x1 : Xfer} {cmd : SdoCommand} {f : RawFrame}
    (h : ResponseCase cfg x cmd x1 (some f)) : x1.st ≠ .done := by
  cases h with
  | notInterpreted | overflow => simp [uninterpretable, abortOut]
  | segmentedUpload => simp [acceptSegmented]
  | segmentedDownload _ _ _ _ _ hseg => simp [sendSegment_st hseg]
  | acknowledged hs _ _ _ _ hseg => simp [sendSegment_st hseg, hs]
  | appended hs _ _ _ _ hw => simp [memWrite_st hw, hs]

theorem onRx_offer_st_ne_done {cfg : Cfg} {x x1 : Xfer} {res : Except ClassErr Message} {f : RawFrame}
    (h : onRx cfg x res = .ok (x1, some f)) : x1.st ≠ .done := by
  rcases onRx_cases cfg x x1 res (some f) h with ⟨_, _, _, htx⟩ | ⟨_, _, _, _, htx⟩ | ⟨cmd, -, hr⟩
  · cases htx
  · cases htx
  · exact (onResponse_cases cfg x x1 cmd (some f) hr).offer_st_ne_done

theorem receive_verdictUse (res : Except ClassErr Message) (u : State) : VerdictUse (receive res) u := by
  by_cases hw : u.x.Waits
  · have hrun (ok : Bool) : receive res (u.verdict ok) = concludeRx (u.verdict ok) (onRx u.cfg u.x res) :=
      receive_waits (s := u.verdict ok) hw res
    cases hrx : onRx u.cfg u.x res with
    | error e => exact .stopped fun ok t => by rw [hrun, hrx]; exact nofun
    | ok p =>
      obtain ⟨x1, tx⟩ := p
      cases tx with
      | none => exact .unread (u.after x1 none none) rfl fun ok => by rw [hrun, hrx]; rfl
      | some f =>
        exact .offered x1 f none (onRx_offer_st_ne_done hrx) fun ok => by rw [hrun, hrx, concludeRx_offer]
  · exact .unread (u.after u.x none none) rfl fun ok => receive_not_waits (s := u.verdict ok) hw res

theorem formAt_verdictUse (port : Port) (res : Except ClassErr Message) (u : State) :
    VerdictUse (formAt port res) u := by
  cases port with
  | rx => exact receive_verdictUse res u
  | parse => exact .unread (emitParse u res) rfl fun _ => rfl
  | pack =>
    cases res with
    | ok m => exact .unread (emitPack u (packAnswer m)) rfl fun _ => rfl
    | error e => exact .unread (emitPack u .refused) rfl fun _ => rfl

/-! ## A host command -/

theorem execSdoRead_verdictUse (node : BitVec 8) (index : BitVec 16) (sub : Byte) (u : State) :
    VerdictUse (execSdoRead node index sub) u := by
  by_cases hst : u.x.st = .idle
  · cases hnode : isNodeId node with
    | false => exact .unread (refuse u .badNode) rfl fun ok => execSdoRead_badNode (u := u.verdict ok) hst hnode
    | true =>
      exact .offered (newUpload node index sub) _ (some .accepted) (by simp [newUpload])
        fun ok => execSdoRead_accepted (u := u.verdict ok) hst hnode
  · exact .unread (refuse u .notIdle) rfl fun ok => execSdoRead_notIdle (s := u.verdict ok) hst node index sub

theorem execSdoWrite_verdictUse (node : BitVec 8) (index : BitVec 16) (sub : Byte) (data : List Byte) (u : State) :
    VerdictUse (execSdoWrite node index sub data) u := by
  by_cases hst : u.x.st = .idle
  · cases hnode : isNodeId node with
    | false => exact .unread (refuse u .badNode) rfl fun ok => execSdoWrite_badNode (u := u.verdict ok) hst hnode
    | true =>
      by_cases hlen : data.length = 0 ∨ u.cfg.bufMax < data.length
      · exact .unread (refuse u .badLength) rfl fun ok => execSdoWrite_badLength (u := u.verdict ok) hst hnode hlen
      · exact .offered (newDownload node index sub data) _ (some .accepted) (by simp [newDownload])
          fun ok => execSdoWrite_accepted (u := u.verdict ok) hst hnode hlen
  · exact .unread (refuse u .notIdle) rfl fun ok => execSdoWrite_notIdle (s := u.verdict ok) hst node index sub data

theorem execAck_verdictUse (u : State) : VerdictUse execAck u := by
  by_cases hterm : u.x.terminal = true
  · exact .unread (u.after .x0 none (some .accepted)) rfl fun ok => execAck_terminal (u := u.verdict ok) hterm
  · exact .unread (refuse u .nothingToAck) rfl fun ok => execAck_not_terminal (u := u.verdict ok) hterm

theorem exec_verdictUse {i : Instr} (hsend : ∀ m, i ≠ .send m) (u : State) : VerdictUse (exec i) u := by
  cases i with
  | nop => exact .unread (emit u u.x none (some .accepted)) rfl fun _ => rfl
  | send m => exact absurd rfl (hsend m)
  | sdoRead node index sub => exact execSdoRead_verdictUse node index sub u
  | sdoWrite node index sub data => exact execSdoWrite_verdictUse node index sub data u
  | ack => exact execAck_verdictUse u
  | _ => exact formAt_verdictUse _ _ u

/-- `SEND` is refused, or answers with the verdict; neither touches the record (R241). -/
theorem exec_send_verdict (m : Message) (u : State) :
    (∃ reason, ∀ ok, exec (.send m) (u.verdict ok) = .next (refuse (u.verdict ok) reason)) ∨
    ∀ ok, ∃ resp, exec (.send m) (u.verdict ok) = .next ((u.verdict ok).after u.x (some m.encode) resp) := by
  by_cases hw : u.x.Waits
  · exact .inl ⟨.busy, fun ok => execSend_busy (u := u.verdict ok) hw⟩
  · cases hm : m.wf with
    | true => exact .inr fun ok => ⟨_, execSend_offer (u := u.verdict ok) hw hm⟩
    | false => exact .inl ⟨.badMessage, fun ok => execSend_badMessage (u := u.verdict ok) hw hm⟩

/-! ## A step -/

theorem endTransfer_verdictUse (u : State) (st : St) (k : ErrKind) :
    VerdictUse (fun v => .next (endTransfer v st k)) u := by
  by_cases hw : u.x.Waits
  · exact .unread (u.after (raise u.x st k) none none) rfl
      fun ok => congrArg _ (endTransfer_waits (s := u.verdict ok) hw st k)
  · exact .unread (u.after u.x none none) rfl
      fun ok => congrArg _ (endTransfer_not_waits (s := u.verdict ok) hw st k)

theorem onBadFrame_verdictUse (port : Port) (e : ClassErr) (u : State) :
    VerdictUse (fun v => .next (onBadFrame port e v)) u := by
  cases port with
  | rx =>
    by_cases hw : u.x.waiting = true
    · exact .unread (u.after (classFailure u.x e) none none) rfl fun ok => congrArg _ (if_pos hw)
    · exact .unread (u.after u.x none none) rfl fun ok => congrArg _ (if_neg hw)
  | parse => exact .unread (emitParse u (.error e)) rfl fun _ => rfl
  | pack => exact .unread (emitPack u .refused) rfl fun _ => rfl

theorem carryOut_verdictUse {dec : Decoded} (hsend : ∀ m, dec ≠ .instr (.send m)) (u : State) :
    VerdictUse (carryOut dec) u := by
  cases dec with
  | instr i => exact exec_verdictUse (fun m hm => hsend m (congrArg _ hm)) u
  | badFrame port e => exact onBadFrame_verdictUse port e u
  | badCommand op => exact .unread (refuse u .badCommand) rfl fun _ => rfl
  | badMessage m => exact .unread (emitPack u .refused) rfl fun _ => rfl
  | timeout => exact endTransfer_verdictUse u .timedOut .timeout
  | rxIoError => exact endTransfer_verdictUse u .error .transportError
  | reset => exact .unread (onReset u) rfl fun _ => rfl

/-- The same step with either verdict: the deliveries differ in nothing else. -/
theorem step_verdict {s : State} {d : Delivery} {rest : List Delivery} {ok : Bool}
    (hin : s.inputs = { d with txOk := ok } :: rest) : step s = carryOut (decodeEvent d.ev) ((s.took d rest).verdict ok) :=
  step_eq_carryOut hin

/-- Settles O38: a `SEND` by `exec_send_verdict`, every other step by the use it makes of the verdict. -/
theorem transmitFailure : Obligations.TransmitFailure := by
  intro s t d rest hin hstep
  rw [step_verdict hin] at hstep
  have hother : step { s with inputs := { d with txOk := false } :: rest } =
      carryOut (decodeEvent d.ev) ((s.took d rest).verdict false) := step_verdict rfl
  rw [hother]
  by_cases hsend : ∃ m, decodeEvent d.ev = .instr (.send m)
  · obtain ⟨m, hm⟩ := hsend
    rw [hm] at hstep ⊢
    rcases exec_send_verdict m (s.took d rest) with ⟨reason, hrun⟩ | hrun
    · obtain rfl := Host.Outcome.next.inj ((hrun true).symm.trans hstep)
      exact ⟨fun _ => hrun false, nofun, fun _ _ => ⟨rfl, _, hrun false, rfl⟩, fun _ _ => rfl⟩
    · obtain ⟨resp, htrue⟩ := hrun true
      obtain ⟨resp', hfalse⟩ := hrun false
      obtain rfl := Host.Outcome.next.inj (htrue.symm.trans hstep)
      exact ⟨nofun, fun _ _ hno => absurd rfl (hno m), fun _ _ => ⟨rfl, _, hfalse, rfl⟩, fun hs ht => absurd ht hs⟩
  · have hno : ∀ m, decodeEvent d.ev ≠ .instr (.send m) := fun m hm => hsend ⟨m, hm⟩
    cases carryOut_verdictUse hno (s.took d rest) with
    | unread t0 htx hrun =>
      obtain rfl := Host.Outcome.next.inj ((hrun true).symm.trans hstep)
      exact ⟨fun _ => hrun false, fun f hf => absurd (htx.symm.trans hf) nofun, fun m hm => absurd hm (hno m),
        fun _ _ => htx⟩
    | offered x1 f resp hx1 hrun =>
      obtain rfl := Host.Outcome.next.inj ((hrun true).symm.trans hstep)
      exact ⟨nofun, fun _ _ _ => hrun false, fun m hm => absurd hm (hno m), fun _ hdone => absurd hdone hx1⟩
    | stopped hrun => exact absurd hstep (hrun true t)

end Sys2Proof.Machine
end

section
/-! PROOFS. The host commands one by one (45_host_commands.md R241 to R245): every answer of each, the record and the frame it
leaves, and what is refused while a response is awaited (70_reset_and_hazards.md R295). -/

namespace Sys2Proof.Machine

/-! ## The frames that start a transfer (R196, R242, R243) -/

/-- Byte `i` of a count that stands in 32 bits (R9). -/
theorem byteOf_ofNat (n : Nat) {i : Nat} (hi : i < 4) :
    byteOf (BitVec.ofNat 32 n) i = BitVec.ofNat 8 (n / 2 ^ (8 * i)) := by
  have hbits : 2 ^ 32 = 2 ^ (8 * i) * 2 ^ (32 - 8 * i) := by
    rw [← Nat.pow_add]
    congr 1
    omega
  have hbyte : 2 ^ 8 ∣ 2 ^ (32 - 8 * i) := Nat.pow_dvd_pow 2 (by omega)
  apply BitVec.eq_of_toNat_eq
  rw [byteOf, BitVec.extractLsb'_toNat, BitVec.toNat_ofNat, BitVec.toNat_ofNat, Nat.shiftRight_eq_div_pow, hbits,
    Nat.mod_mul_right_div_self, Nat.mod_mod_of_dvd _ hbyte]

theorem bytesLe32_ofNat (n : Nat) : bytesLe32 (BitVec.ofNat 32 n) =
    ⟨BitVec.ofNat 8 n, BitVec.ofNat 8 (n / 2 ^ 8), BitVec.ofNat 8 (n / 2 ^ 16), BitVec.ofNat 8 (n / 2 ^ 24)⟩ := by
  simp [bytesLe32, byteOf_ofNat]

/-- A request to a node number that passed its test (R11, R56). -/
theorem sdoRequest_encode_of_isNodeId {node : BitVec 8} (hnode : isNodeId node = true) {cmd : SdoCommand} {b : Bytes8}
    (h : encodeSdo cmd = b.toList) : (Message.sdoRequest node cmd).encode = requestFrame (node.setWidth 7) b := by
  have hframe := sdoRequest_encode h (node7 node)
  rwa [node8_node7 node ((isNodeId_iff node).mp hnode).2] at hframe

theorem encodeSdo_initUploadReq (index : BitVec 16) (sub : Byte) : encodeSdo (.initUploadReq index sub) =
    (⟨0x40#8, index.extractLsb' 0 8, index.extractLsb' 8 8, sub, 0, 0, 0, 0⟩ : Bytes8).toList := by
  have hb0 : plainByte 2#3 = 0x40#8 := by decide
  simp only [encodeSdo, sdoCs, hb0]
  rfl

theorem encodeSdo_expeditedDownload (n : BitVec 2) (index : BitVec 16) (sub : Byte) (data : List Byte) :
    encodeSdo (.initDownloadReq n true true index sub (Bytes4.padded data)) =
      (⟨1#3 ++ 0#1 ++ n ++ 3#2, index.extractLsb' 0 8, index.extractLsb' 8 8, sub, data.getD 0 0#8, data.getD 1 0#8,
        data.getD 2 0#8, data.getD 3 0#8⟩ : Bytes8).toList := by
  have hb0 : initDataByte 1#3 n true true = 1#3 ++ 0#1 ++ n ++ 3#2 := by
    revert n
    decide
  simp only [encodeSdo, sdoCs, hb0]
  rfl

theorem encodeSdo_segmentedDownload (index : BitVec 16) (sub : Byte) (size : Nat) :
    encodeSdo (.initDownloadReq 0#2 false true index sub (bytesLe32 (BitVec.ofNat 32 size))) =
      (⟨0x21#8, index.extractLsb' 0 8, index.extractLsb' 8 8, sub, BitVec.ofNat 8 size, BitVec.ofNat 8 (size / 2 ^ 8),
        BitVec.ofNat 8 (size / 2 ^ 16), BitVec.ofNat 8 (size / 2 ^ 24)⟩ : Bytes8).toList := by
  have hb0 : initDataByte 1#3 0#2 false true = 0x21#8 := by decide
  simp only [encodeSdo, sdoCs, hb0, bytesLe32_ofNat]
  rfl

/-! ## The write's two kinds of transfer (R243) -/

section
variable (node : BitVec 8) (index : BitVec 16) (sub : Byte) {data : List Byte}

theorem initDownload_of_le (h : data.length ≤ 4) : initDownload (newDownload node index sub data) =
    .initDownloadReq (BitVec.ofNat 2 (4 - data.length)) true true index sub (Bytes4.padded data) :=
  if_pos h

theorem initDownload_of_gt (h : ¬ data.length ≤ 4) : initDownload (newDownload node index sub data) =
    .initDownloadReq 0#2 false true index sub (bytesLe32 (BitVec.ofNat 32 data.length)) :=
  if_neg h

theorem newDownload_of_le (h : data.length ≤ 4) : newDownload node index sub data =
    { Xfer.x0 with st := .initiating, dir := .download, node := node.setWidth 7, index := index, sub := sub, exp := true,
                   buf := data, bufLen := data.length, total := BitVec.ofNat 32 data.length, totalValid := true } := by
  simp only [newDownload, h, decide_true, if_true]
  rfl

theorem newDownload_of_gt (h : ¬ data.length ≤ 4) : newDownload node index sub data =
    { Xfer.x0 with st := .initiating, dir := .download, node := node.setWidth 7, index := index, sub := sub, exp := false,
                   buf := data, bufLen := data.length, total := BitVec.ofNat 32 data.length, totalValid := true,
                   remaining := BitVec.ofNat 32 data.length } := by
  simp only [newDownload, h, decide_false, if_false]
  rfl

end

/-! ## The outcomes of each command -/

theorem isNodeId_eq_false_of {node : BitVec 8} (h : node.toNat = 0 ∨ 127 < node.toNat) : isNodeId node = false :=
  (isNodeId_eq_false_iff node).mpr (h.imp_left BitVec.eq_of_toNat_eq)

/-- Settles O51: the tests of `execSend` in their order, then the verdict. -/
theorem sendOutcomes : Obligations.SendOutcomes := by
  intro s m
  refine ⟨fun hw => execSend_busy hw, fun hw hm => execSend_badMessage hw hm, fun hw hm hok => ?_, fun hw hm hok => ?_⟩
  · exact (execSend_offer hw hm).trans (by rw [hok]; rfl)
  · exact (execSend_offer hw hm).trans (by rw [hok]; rfl)

/-- Settles O52: the tests of `execSdoRead` in their order, and the request of the accepted read byte by byte. -/
theorem readOutcomes : Obligations.ReadOutcomes := by
  intro s node index sub
  refine ⟨fun hst => execSdoRead_notIdle hst node index sub,
    fun hst hnode => execSdoRead_badNode hst (isNodeId_eq_false_of hnode), fun hst h1 h127 => ?_⟩
  have hnode := (isNodeId_iff node).mpr ⟨h1, h127⟩
  refine (execSdoRead_accepted hst hnode).trans ?_
  rw [sdoRequest_encode_of_isNodeId hnode (encodeSdo_initUploadReq index sub)]
  rfl

/-- Settles O53: the tests of `execSdoWrite` in their order, then the record and the request of each kind of transfer. -/
theorem writeOutcomes : Obligations.WriteOutcomes := by
  intro s node index sub data
  refine ⟨fun hst => execSdoWrite_notIdle hst node index sub data,
    fun hst hnode => execSdoWrite_badNode hst (isNodeId_eq_false_of hnode),
    fun hst h1 h127 hlen => execSdoWrite_badLength hst ((isNodeId_iff node).mpr ⟨h1, h127⟩) hlen,
    fun hst h1 h127 hpos hle hfits => ?_, fun hst h1 h127 hge hfits => ?_⟩
  · have hnode := (isNodeId_iff node).mpr ⟨h1, h127⟩
    refine (execSdoWrite_accepted hst hnode (by omega)).trans ?_
    rw [initDownload_of_le node index sub hle, newDownload_of_le node index sub hle,
      sdoRequest_encode_of_isNodeId hnode (encodeSdo_expeditedDownload _ index sub data)]
  · have hnode := (isNodeId_iff node).mpr ⟨h1, h127⟩
    have hgt : ¬ data.length ≤ 4 := by omega
    refine (execSdoWrite_accepted hst hnode (by omega)).trans ?_
    rw [initDownload_of_gt node index sub hgt, newDownload_of_gt node index sub hgt,
      sdoRequest_encode_of_isNodeId hnode (encodeSdo_segmentedDownload index sub data.length)]

theorem not_terminal_iff (x : Xfer) : ¬ x.terminal = true ↔ x.st = .idle ∨ x.Waits := by
  unfold Xfer.terminal Xfer.Waits
  cases x.st <;> simp

/-- Settles O54: the terminal states are those `execAck` tests for. -/
theorem ackOutcomes : Obligations.AckOutcomes := fun s =>
  ⟨fun hterm => execAck_terminal ((terminal_iff s.x).mpr hterm), fun h => execAck_not_terminal ((not_terminal_iff s.x).mpr h)⟩

/-! ## While a response is awaited (R295) -/

theorem st_ne_idle_of_waits {x : Xfer} (h : x.Waits) : x.st ≠ .idle := by
  rcases h with h | h <;> simp [h]

/-- Settles O56: a waiting transfer is neither `IDLE` nor terminal, and `SEND` is busy. -/
theorem nopAloneWhileWaiting : Obligations.NopAloneWhileWaiting :=
  ⟨fun _ => rfl, fun s hw =>
    ⟨fun _ => ⟨.busy, execSend_busy hw⟩,
      fun node index sub => ⟨.notIdle, execSdoRead_notIdle (st_ne_idle_of_waits hw) node index sub⟩,
      fun node index sub data => ⟨.notIdle, execSdoWrite_notIdle (st_ne_idle_of_waits hw) node index sub data⟩,
      .nothingToAck, execAck_not_terminal ((not_terminal_iff s.x).mpr (.inr hw))⟩⟩

end Sys2Proof.Machine
end

section
/-! PROOFS. The order of a command's tests (45_host_commands.md R246): the machine answers as the first failing test says, opcode
by opcode. -/

namespace Sys2Proof.Machine

/-- The outcome `o` in the state `u` is the one R246 asks for where its tests give `reason`: that refusal with no effect, or no
refusal at all. -/
def AnswersBy (u : State) (reason : Option RefusalReason) (o : Host.Outcome State Fault Refusal) : Prop :=
  match reason with
  | some r => o = .next (u.after u.x none (some (.refused r)))
  | none => ∃ t, o = .next t ∧ (t.resp = some .accepted ∨ t.resp = some .failedTransportError)

theorem answersBy_afterOffer (u : State) (x1 : Xfer) (f : RawFrame) :
    AnswersBy u none (.next (u.afterOffer x1 f (some .accepted))) :=
  ⟨_, rfl, .inl rfl⟩

/-! ## The tests of each opcode (R85, R246) -/

section
variable (cfg : Cfg) (x : Xfer) {c : RawCmd}

theorem refusalOf_nop (hop : c.op = 0#3) : refusalOf cfg x c = none := by simp [refusalOf, hop]

theorem refusalOf_send (hop : c.op = 1#3) : refusalOf cfg x c =
    if x.Waits then some .busy else if c.msg.wf = true then none else some .badMessage := by simp [refusalOf, hop]

theorem refusalOf_read (hop : c.op = 2#3) : refusalOf cfg x c =
    if x.st ≠ .idle then some .notIdle
    else if c.node.toNat < 1 ∨ 127 < c.node.toNat then some .badNode else none := by simp [refusalOf, hop]

theorem refusalOf_write (hop : c.op = 3#3) : refusalOf cfg x c =
    if x.st ≠ .idle then some .notIdle
    else if c.node.toNat < 1 ∨ 127 < c.node.toNat then some .badNode
    else if c.data.length < 1 ∨ cfg.bufMax < c.data.length then some .badLength else none := by simp [refusalOf, hop]

theorem refusalOf_ack (hop : c.op = 4#3) : refusalOf cfg x c =
    if x.st = .idle ∨ x.Waits then some .nothingToAck else none := by simp [refusalOf, hop]

theorem refusalOf_badCommand (hop : 5 ≤ c.op.toNat) : refusalOf cfg x c = some .badCommand := if_pos hop

end

/-! ## The answer of each opcode -/

section
variable (u : State) {c : RawCmd}

theorem execSend_answersBy (hop : c.op = 1#3) : AnswersBy u (refusalOf u.cfg u.x c) (execSend c.msg u) := by
  rw [refusalOf_send _ _ hop]
  split
  next hw => exact execSend_busy hw
  next hw =>
    split
    next hm =>
      refine ⟨_, execSend_offer hw hm, ?_⟩
      cases u.txOk with
      | true => exact .inl rfl
      | false => exact .inr rfl
    next hm => exact execSend_badMessage hw (Bool.not_eq_true _ ▸ hm)

theorem execSdoRead_answersBy (hop : c.op = 2#3) :
    AnswersBy u (refusalOf u.cfg u.x c) (execSdoRead c.node c.index c.sub u) := by
  rw [refusalOf_read _ _ hop]
  split
  next hst => exact execSdoRead_notIdle hst c.node c.index c.sub
  next hst =>
    split
    next hnode => exact execSdoRead_badNode (not_not.mp hst) (isNodeId_eq_false_of (by omega))
    next hnode =>
      rw [execSdoRead_accepted (not_not.mp hst) ((isNodeId_iff c.node).mpr (by omega))]
      exact answersBy_afterOffer ..

theorem execSdoWrite_answersBy (hop : c.op = 3#3) :
    AnswersBy u (refusalOf u.cfg u.x c) (execSdoWrite c.node c.index c.sub c.data u) := by
  rw [refusalOf_write _ _ hop]
  split
  next hst => exact execSdoWrite_notIdle hst c.node c.index c.sub c.data
  next hst =>
    split
    next hnode => exact execSdoWrite_badNode (not_not.mp hst) (isNodeId_eq_false_of (by omega))
    next hnode =>
      have hid : isNodeId c.node = true := (isNodeId_iff c.node).mpr (by omega)
      split
      next hlen => exact execSdoWrite_badLength (not_not.mp hst) hid (by omega)
      next hlen =>
        rw [execSdoWrite_accepted (not_not.mp hst) hid (by omega)]
        exact answersBy_afterOffer ..

theorem execAck_answersBy (hop : c.op = 4#3) : AnswersBy u (refusalOf u.cfg u.x c) (execAck u) := by
  rw [refusalOf_ack _ _ hop]
  split
  next h => exact execAck_not_terminal ((not_terminal_iff u.x).mpr h)
  next h => exact ⟨_, execAck_terminal (not_not.mp (mt (not_terminal_iff u.x).mp h)), .inl rfl⟩

/-- The opcodes of R85, and those above them. -/
theorem carryOut_cmd_answersBy (c : RawCmd) : AnswersBy u (refusalOf u.cfg u.x c) (carryOut (decodeCmd c) u) := by
  have hop (n : BitVec 3) (h : c.op.toNat = n.toNat) : c.op = n := BitVec.eq_of_toNat_eq h
  unfold decodeCmd
  split
  case h_1 h =>
    rw [refusalOf_nop _ _ (hop 0#3 h)]
    exact ⟨_, rfl, .inl rfl⟩
  case h_2 h => exact execSend_answersBy u (hop 1#3 h)
  case h_3 h => exact execSdoRead_answersBy u (hop 2#3 h)
  case h_4 h => exact execSdoWrite_answersBy u (hop 3#3 h)
  case h_5 h => exact execAck_answersBy u (hop 4#3 h)
  case h_6 h0 h1 h2 h3 h4 =>
    have hne : c.op.toNat ≠ 0 ∧ c.op.toNat ≠ 1 ∧ c.op.toNat ≠ 2 ∧ c.op.toNat ≠ 3 ∧ c.op.toNat ≠ 4 := ⟨h0, h1, h2, h3, h4⟩
    have h5 : 5 ≤ c.op.toNat := by omega
    rw [refusalOf_badCommand _ _ h5]
    rfl

end

/-- Settles O55: opcode by opcode, the command's tests are those of R246 in their order. -/
theorem refusalsInOrder : Obligations.RefusalsInOrder := by
  intro s d rest c hin hev
  have hans := carryOut_cmd_answersBy (s.took d rest) c
  have hstep : step s = carryOut (decodeCmd c) (s.took d rest) := by
    rw [step_eq_carryOut hin, hev]
    rfl
  rw [← hstep] at hans
  exact ⟨fun reason hreason => (hreason ▸ hans : AnswersBy _ (some reason) _),
    fun hnone => (hnone ▸ hans : AnswersBy _ none _)⟩

end Sys2Proof.Machine
end

section
/-! PROOFS. The Message Classifier and the identifiers it undoes (41_message_classifier.md R131, R147): which pairs of a kind and
a node have an identifier, that `classify` and `cobIdOf` undo each other on them, and how many there are. -/

namespace Sys2Proof

/-! ## An identifier is its function code and its node field (R71) -/

theorem identifier_ext {a b : BitVec 11} (hfc : functionCode a = functionCode b) (hnf : nodeField a = nodeField b) : a = b := by
  rw [← BitVec.toNat_inj, functionCode_toNat, functionCode_toNat] at hfc
  rw [← BitVec.toNat_inj, nodeField_toNat, nodeField_toNat] at hnf
  exact BitVec.eq_of_toNat_eq (by omega)

@[simp] theorem functionCode_orNode (base : BitVec 11) (nd : BitVec 7) : functionCode (orNode base nd) = functionCode base := by
  have hnd : functionCode (nd.setWidth 11) = 0#4 := by
    rw [← BitVec.toNat_inj, functionCode_toNat, BitVec.toNat_setWidth]
    have := nd.isLt
    simp only [BitVec.toNat_ofNat]
    omega
  have hor : functionCode (orNode base nd) = functionCode base ||| functionCode (nd.setWidth 11) := BitVec.extractLsb'_or
  rw [hor, hnd, BitVec.or_zero]

theorem nodeField_orNode {base : BitVec 11} (hbase : nodeField base = 0#7) (nd : BitVec 7) : nodeField (orNode base nd) = nd := by
  have hnd : nodeField (nd.setWidth 11) = nd := by
    rw [← BitVec.toNat_inj, nodeField_toNat, BitVec.toNat_setWidth]
    have := nd.isLt
    omega
  have hor : nodeField (orNode base nd) = nodeField base ||| nodeField (nd.setWidth 11) := BitVec.extractLsb'_or
  rw [hor, hbase, hnd, BitVec.zero_or]

theorem orNode_nodeField {base id : BitVec 11} (hfc : (functionCode id).toNat = (functionCode base).toNat)
    (hbase : nodeField base = 0#7) : orNode base (nodeField id) = id :=
  identifier_ext ((functionCode_orNode base _).trans (BitVec.eq_of_toNat_eq hfc.symm)) (nodeField_orNode hbase _)

/-! ## The pairs that have an identifier (R131) -/

/-- The node fields a kind's identifiers carry: 0 for NMT and SYNC, any other for the rest; a PDO slot is numbered 1 to 4. -/
def Kind.Admits (k : Kind) (nd : BitVec 7) : Prop :=
  match k with
  | .nmt => nd = 0#7
  | .sync => nd = 0#7
  | .emcy => nd ≠ 0#7
  | .pdo slot => 1 ≤ slot.num ∧ slot.num ≤ 4 ∧ nd ≠ 0#7
  | .sdoRsp => nd ≠ 0#7
  | .sdoReq => nd ≠ 0#7
  | .heartbeat => nd ≠ 0#7

/-- A slot in range is one of four, in the form the formulas of R131 take. -/
theorem slot_eq {slot : PdoSlot} (h1 : 1 ≤ slot.num) (h4 : slot.num ≤ 4) : ∃ k : Fin 4, slot = ⟨k.val + 1, slot.dir⟩ :=
  ⟨⟨slot.num - 1, by omega⟩, by
    obtain ⟨num, dir⟩ := slot
    simp only [PdoSlot.mk.injEq, and_true] at h1 ⊢
    omega⟩

/-- Each of the eight PDO bases has a block of its own (R135 to R142). -/
theorem classify_pdo (k : Fin 4) (dir : PdoDir) {nd : BitVec 7} (hnd : nd ≠ 0#7) :
    classify (orNode (pdoBase ⟨k.val + 1, dir⟩) nd) = .ok (.pdo ⟨k.val + 1, dir⟩, nd) := by
  have hbase : nodeField (pdoBase ⟨k.val + 1, dir⟩) = 0#7 := by cases dir <;> revert k <;> decide
  unfold classify
  rw [functionCode_orNode, nodeField_orNode hbase]
  cases dir <;> fin_cases k <;> exact if_neg hnd

theorem classify_cobIdOf {k : Kind} {nd : BitVec 7} (h : k.Admits nd) : classify (cobIdOf k nd) = .ok (k, nd) := by
  cases k with
  | nmt => obtain rfl : nd = 0#7 := h; rfl
  | sync => obtain rfl : nd = 0#7 := h; rfl
  | pdo slot =>
    obtain ⟨h1, h4, hnd⟩ := h
    obtain ⟨j, hslot⟩ := slot_eq h1 h4
    rw [hslot]
    exact classify_pdo j slot.dir hnd
  | emcy | sdoRsp | sdoReq | heartbeat =>
    unfold classify
    rw [cobIdOf, functionCode_orNode, nodeField_orNode rfl]
    exact if_neg h

theorem nodeBlock_eq_ok {kind k : Kind} {nf nd : BitVec 7} (h : nodeBlock kind nf = .ok (k, nd)) :
    kind = k ∧ nf = nd ∧ nf ≠ 0#7 := by
  unfold nodeBlock at h
  split at h
  · cases h
  · cases h; exact ⟨rfl, rfl, ‹_›⟩

/-- What `classify` gives has the identifier it was given: block by block of the function code. -/
theorem classify_eq_ok {id : BitVec 11} {k : Kind} {nd : BitVec 7} (h : classify id = .ok (k, nd)) :
    k.Admits nd ∧ cobIdOf k nd = id := by
  unfold classify at h
  dsimp only at h
  split at h
  case h_1 hfc =>
    split at h <;> cases h
    exact ⟨rfl, identifier_ext (BitVec.eq_of_toNat_eq hfc.symm) (Eq.symm ‹_›)⟩
  case h_2 hfc =>
    split at h <;> cases h
    · exact ⟨rfl, identifier_ext (BitVec.eq_of_toNat_eq hfc.symm) (Eq.symm ‹_›)⟩
    · exact ⟨‹_›, orNode_nodeField hfc rfl⟩
  case h_14 => cases h
  case h_11 hfc | h_12 hfc | h_13 hfc =>
    obtain ⟨rfl, rfl, hnd⟩ := nodeBlock_eq_ok h
    exact ⟨hnd, orNode_nodeField hfc rfl⟩
  all_goals
    rename_i hfc
    obtain ⟨rfl, rfl, hnd⟩ := nodeBlock_eq_ok h
    exact ⟨⟨by decide, by decide, hnd⟩, orNode_nodeField hfc rfl⟩

/-! ## How many identifiers are recognized (R146) -/

/-- Counting a range of `m` blocks of `n` is counting in each block. -/
theorem countP_range_mul (p : Nat → Bool) (m n : Nat) : (List.range (m * n)).countP p =
    ((List.range m).map fun q => (List.range n).countP fun r => p (q * n + r)).sum := by
  induction m with
  | zero => simp
  | succ m ih => simp [Nat.succ_mul, List.range_add, List.range_succ, List.countP_map, ih, Function.comp_def]

/-- Whether the block of a function code recognizes node 0 (`zero`) or another node. -/
def blockRecognizes (fc : Nat) (zero : Bool) : Bool :=
  if fc = 0 then zero else if fc = 1 then true else if fc ∈ [2, 13, 15] then false else !zero

theorem isOk_ok {α : Type} (a : α) : (Except.ok a : Except ClassErr α).isOk = true := rfl

theorem isOk_error {α : Type} (e : ClassErr) : (Except.error e : Except ClassErr α).isOk = false := rfl

theorem isOk_nodeBlock (k : Kind) (nd : BitVec 7) : (nodeBlock k nd).isOk = !decide (nd = 0#7) := by
  unfold nodeBlock
  split <;> simp [*, isOk_ok, isOk_error]

theorem isOk_classify (id : BitVec 11) :
    (classify id).isOk = blockRecognizes (functionCode id).toNat (decide (nodeField id = 0#7)) := by
  have hlt : (functionCode id).toNat < 16 := (functionCode id).isLt
  unfold classify
  generalize (functionCode id).toNat = fc at *
  interval_cases fc
  · by_cases hz : nodeField id = 0#7 <;> simp [hz, blockRecognizes, isOk_ok, isOk_error]
  · by_cases hz : nodeField id = 0#7 <;> simp [hz, blockRecognizes, isOk_ok]
  all_goals simp [isOk_nodeBlock, blockRecognizes, isOk_error]

theorem isOk_classify_ofNat {q r : Nat} (hq : q < 16) (hr : r < 128) :
    (classify (BitVec.ofNat 11 (q * 128 + r))).isOk = blockRecognizes q (decide (r = 0)) := by
  have hid : (BitVec.ofNat 11 (q * 128 + r)).toNat = q * 128 + r := by
    rw [BitVec.toNat_ofNat]
    omega
  have hfc : (functionCode (BitVec.ofNat 11 (q * 128 + r))).toNat = q := by
    rw [functionCode_toNat, hid]
    omega
  have hnf : nodeField (BitVec.ofNat 11 (q * 128 + r)) = 0#7 ↔ r = 0 := by
    rw [nodeField_eq_zero_iff, hid]
    omega
  rw [isOk_classify, hfc, decide_eq_decide.mpr hnf]

/-- The number of identifiers recognized in the block of a function code. -/
def blockSize (fc : Nat) : Nat := if fc = 0 then 1 else if fc = 1 then 128 else if fc ∈ [2, 13, 15] then 0 else 127

theorem countP_block {q : Nat} (hq : q < 16) :
    ((List.range 128).countP fun r => (classify (BitVec.ofNat 11 (q * 128 + r))).isOk) = blockSize q := by
  rw [List.countP_congr fun r hr => by rw [isOk_classify_ofNat hq (List.mem_range.mp hr)]]
  unfold blockRecognizes blockSize
  split_ifs <;> rfl

theorem recognized_count : ((List.range 2048).filter fun n => (classify (BitVec.ofNat 11 n)).isOk).length = 1526 := by
  rw [← List.countP_eq_length_filter, countP_range_mul _ 16 128,
    List.map_congr_left fun q hq => countP_block (List.mem_range.mp hq)]
  decide

/-- Settles O1: `classify_cobIdOf` on the pairs a kind admits, `classify_eq_ok` for the converse, and the count block by block. -/
theorem classifyInvertsCobId : Obligations.ClassifyInvertsCobId :=
  ⟨fun _ => classify_cobIdOf (k := .nmt) rfl, fun _ => classify_cobIdOf (k := .sync) rfl,
    fun _ h => classify_cobIdOf (k := .emcy) h, fun slot _ h1 h4 h => classify_cobIdOf (k := .pdo slot) ⟨h1, h4, h⟩,
    fun _ h => classify_cobIdOf (k := .sdoRsp) h, fun _ h => classify_cobIdOf (k := .sdoReq) h,
    fun _ h => classify_cobIdOf (k := .heartbeat) h, fun _ _ _ h => (classify_eq_ok h).2, recognized_count⟩

end Sys2Proof
end

section
/-! PROOFS. The SDO Command Codec, both ways (43_sdo_command_codec.md R161 to R175): decoding an encoded command gives it back, and
which payloads an encoded command gives back. -/

namespace Sys2Proof

/-! ## Decoding what was encoded (R173) -/

/-- The eight bytes of a command (R173). -/
def sdoBytes (c : SdoCommand) : Bytes8 := Bytes8.padded (encodeSdo c)

theorem encodeSdo_eq_toList (c : SdoCommand) : encodeSdo c = (sdoBytes c).toList := by
  cases c <;> rfl

theorem sdoSpecifier_sdoBytes (c : SdoCommand) : sdoSpecifier (sdoBytes c).b0 = sdoCs c := by
  cases c with
  | initDownloadReq | initUploadRsp => exact sdoSpecifier_initDataByte ..
  | downloadSegReq | uploadSegRsp => exact sdoSpecifier_segDataByte ..
  | uploadSegReq | downloadSegRsp => exact sdoSpecifier_segPlainByte ..
  | initUploadReq | abort | initDownloadRsp => exact sdoSpecifier_plainByte _

theorem decodeSdoReq_encodeSdo {c : SdoCommand} (h : c.isRequest = true) : decodeSdoReq (encodeSdo c) = .ok c := by
  have hcs := sdoSpecifier_sdoBytes c
  rw [encodeSdo_eq_toList]
  cases c with
  | downloadSegReq t n cBit d =>
    rw [decodeSdoReq_downloadSegReq hcs]
    simp [sdoBytes, encodeSdo, Bytes8.padded, byteAt, Bytes7.toList]
  | initDownloadReq n e sInd index sub d =>
    rw [decodeSdoReq_initDownloadReq hcs]
    simp [sdoBytes, encodeSdo, Bytes8.padded, byteAt, Bytes4.toList, addressBytes, bytesLe16]
  | initUploadReq index sub =>
    rw [decodeSdoReq_initUploadReq hcs]
    simp [sdoBytes, encodeSdo, Bytes8.padded, byteAt, addressBytes, bytesLe16]
  | uploadSegReq t =>
    rw [decodeSdoReq_uploadSegReq hcs]
    simp [sdoBytes, encodeSdo, Bytes8.padded, byteAt]
  | abort index sub code =>
    rw [decodeSdoReq_abort hcs]
    simp [sdoBytes, encodeSdo, Bytes8.padded, byteAt, Bytes4.toList, addressBytes, bytesLe16, bytesLe32]
  | initDownloadRsp | initUploadRsp | downloadSegRsp | uploadSegRsp => cases h

theorem decodeSdoRsp_encodeSdo {c : SdoCommand} (h : c.isResponse = true) : decodeSdoRsp (encodeSdo c) = .ok c := by
  have hcs := sdoSpecifier_sdoBytes c
  rw [encodeSdo_eq_toList]
  cases c with
  | uploadSegRsp t n cBit d =>
    rw [decodeSdoRsp_uploadSegRsp hcs]
    simp [sdoBytes, encodeSdo, Bytes8.padded, byteAt, Bytes7.toList]
  | initUploadRsp n e sInd index sub d =>
    rw [decodeSdoRsp_initUploadRsp hcs]
    simp [sdoBytes, encodeSdo, Bytes8.padded, byteAt, Bytes4.toList, addressBytes, bytesLe16]
  | initDownloadRsp index sub =>
    rw [decodeSdoRsp_initDownloadRsp hcs]
    simp [sdoBytes, encodeSdo, Bytes8.padded, byteAt, addressBytes, bytesLe16]
  | downloadSegRsp t =>
    rw [decodeSdoRsp_downloadSegRsp hcs]
    simp [sdoBytes, encodeSdo, Bytes8.padded, byteAt]
  | abort index sub code =>
    rw [decodeSdoRsp_abort hcs]
    simp [sdoBytes, encodeSdo, Bytes8.padded, byteAt, Bytes4.toList, addressBytes, bytesLe16, bytesLe32]
  | initDownloadReq | initUploadReq | downloadSegReq | uploadSegReq => cases h

end Sys2Proof

namespace Sys2Proof.Machine

/-! ## Encoding what was decoded (R175) -/

theorem zeroFrom_toList_four (b : Bytes8) : zeroFrom b.toList 4 ↔ b.b4 = 0#8 ∧ b.b5 = 0#8 ∧ b.b6 = 0#8 ∧ b.b7 = 0#8 := by
  refine ⟨fun h => ⟨h 4 (by decide) (by decide), h 5 (by decide) (by decide), h 6 (by decide) (by decide),
    h 7 (by decide) (by decide)⟩, fun ⟨h4, h5, h6, h7⟩ i hi hi' => ?_⟩
  interval_cases i
  exacts [h4, h5, h6, h7]

theorem zeroFrom_toList_one (b : Bytes8) :
    zeroFrom b.toList 1 ↔ b.b1 = 0#8 ∧ b.b2 = 0#8 ∧ b.b3 = 0#8 ∧ zeroFrom b.toList 4 := by
  refine ⟨fun h => ⟨h 1 (by decide) (by decide), h 2 (by decide) (by decide), h 3 (by decide) (by decide),
    fun i hi => h i (by omega)⟩, fun ⟨h1, h2, h3, h4⟩ i hi hi' => ?_⟩
  by_cases h4i : 4 ≤ i
  · exact h4 i h4i hi'
  · interval_cases i
    exacts [h1, h2, h3]

theorem specifier_cases (cs : BitVec 3) : cs = 0#3 ∨ cs = 1#3 ∨ cs = 2#3 ∨ cs = 3#3 ∨ cs = 4#3 ∨ 5 ≤ cs.toNat := by
  revert cs
  decide

section
variable {b : Bytes8} {cs : BitVec 3} (h : sdoSpecifier b.b0 = cs)
include h

/-! The four layouts of R88 (e), each put together again from the fields of `b`. -/

theorem segData_fields_eq : [segDataByte cs (sdoT b.b0) (sdoSegN b.b0) (sdoC b.b0)] ++
    Bytes7.toList ⟨b.b1, b.b2, b.b3, b.b4, b.b5, b.b6, b.b7⟩ = b.toList := by
  rw [← h, segDataByte_fields]
  rfl

theorem initData_fields_eq_iff : [initDataByte cs (sdoInitN b.b0) (sdoE b.b0) (sdoS b.b0)] ++
    addressBytes (le16 b.b1 b.b2) b.b3 ++ Bytes4.toList ⟨b.b4, b.b5, b.b6, b.b7⟩ = b.toList ↔ b.b0.getLsbD 4 = false := by
  rw [← h, ← initDataByte_fields]
  simp [addressBytes, bytesLe16, Bytes4.toList, Bytes8.toList]

theorem segPlain_fields_eq_iff : [segPlainByte cs (sdoT b.b0)] ++ List.replicate 7 0#8 = b.toList ↔
    b.b0.extractLsb' 0 4 = 0#4 ∧ zeroFrom b.toList 1 := by
  rw [← h, ← segPlainByte_fields, zeroFrom_toList_one, zeroFrom_toList_four]
  simp [Bytes8.toList, @eq_comm Byte 0#8]

theorem plain_fields_eq_iff : [plainByte cs] ++ addressBytes (le16 b.b1 b.b2) b.b3 ++ List.replicate 4 0#8 = b.toList ↔
    b.b0.extractLsb' 0 5 = 0#5 ∧ zeroFrom b.toList 4 := by
  rw [← h, ← plainByte_fields, zeroFrom_toList_four]
  simp [addressBytes, bytesLe16, Bytes8.toList, @eq_comm Byte 0#8]

theorem abort_fields_eq_iff : [plainByte cs] ++ addressBytes (le16 b.b1 b.b2) b.b3 ++
    (bytesLe32 (le32 b.b4 b.b5 b.b6 b.b7)).toList = b.toList ↔ b.b0.extractLsb' 0 5 = 0#5 := by
  obtain ⟨h4, h5, h6, h7⟩ := byteOf_le32 b.b4 b.b5 b.b6 b.b7
  rw [← h, ← plainByte_fields]
  simp [addressBytes, bytesLe16, bytesLe32, Bytes4.toList, Bytes8.toList, h4, h5, h6, h7]

end

theorem encodeSdo_decodeSdoReq_iff {p : List Byte} {c : SdoCommand} (hp : p.length = 8) (hc : decodeSdoReq p = .ok c) :
    encodeSdo c = p ↔ sdoReservedZero c p := by
  obtain ⟨b, rfl⟩ := eight_bytes p hp
  rcases specifier_cases (sdoSpecifier b.b0) with h | h | h | h | h | h
  · cases (decodeSdoReq_downloadSegReq h).symm.trans hc
    exact iff_of_true (segData_fields_eq h) trivial
  · cases (decodeSdoReq_initDownloadReq h).symm.trans hc
    exact initData_fields_eq_iff h
  · cases (decodeSdoReq_initUploadReq h).symm.trans hc
    exact plain_fields_eq_iff h
  · cases (decodeSdoReq_uploadSegReq h).symm.trans hc
    exact segPlain_fields_eq_iff h
  · cases (decodeSdoReq_abort h).symm.trans hc
    exact abort_fields_eq_iff h
  · cases (decodeSdoReq_reserved (p := b.toList) h).symm.trans hc

theorem encodeSdo_decodeSdoRsp_iff {p : List Byte} {c : SdoCommand} (hp : p.length = 8) (hc : decodeSdoRsp p = .ok c) :
    encodeSdo c = p ↔ sdoReservedZero c p := by
  obtain ⟨b, rfl⟩ := eight_bytes p hp
  rcases specifier_cases (sdoSpecifier b.b0) with h | h | h | h | h | h
  · cases (decodeSdoRsp_uploadSegRsp h).symm.trans hc
    exact iff_of_true (segData_fields_eq h) trivial
  · cases (decodeSdoRsp_downloadSegRsp h).symm.trans hc
    exact segPlain_fields_eq_iff h
  · cases (decodeSdoRsp_initUploadRsp h).symm.trans hc
    exact initData_fields_eq_iff h
  · cases (decodeSdoRsp_initDownloadRsp h).symm.trans hc
    exact plain_fields_eq_iff h
  · cases (decodeSdoRsp_abort h).symm.trans hc
    exact abort_fields_eq_iff h
  · cases (decodeSdoRsp_reserved (p := b.toList) h).symm.trans hc

/-- Settles O5: form by form one way; the other way specifier by specifier, each payload by its layout. -/
theorem sdoCodecRoundTrip : Obligations.SdoCodecRoundTrip :=
  ⟨fun _ => decodeSdoReq_encodeSdo, fun _ => decodeSdoRsp_encodeSdo, fun _ _ => encodeSdo_decodeSdoReq_iff,
    fun _ _ => encodeSdo_decodeSdoRsp_iff⟩

end Sys2Proof.Machine
end

section
/-! PROOFS. The Frame Codec, both ways (40_frame_codec.md R101 to R112): what `encode` makes of a well-formed message decodes to
it, what a decoded frame can hold, and which frames `encode` gives back. -/

namespace Sys2Proof

/-! ## Decoding what was encoded (R112 (a)) -/

theorem node7_ne_zero {node : BitVec 8} (h : isNodeId node = true) : node7 node ≠ 0#7 := by
  obtain ⟨h1, h127⟩ := (isNodeId_iff node).mp h
  intro hzero
  have hnode := node8_node7 node h127
  rw [hzero] at hnode
  rw [← hnode] at h1
  exact absurd h1 (by decide)

theorem node8_node7_of_isNodeId {node : BitVec 8} (h : isNodeId node = true) : node8 (node7 node) = node :=
  node8_node7 node ((isNodeId_iff node).mp h).2

theorem payload_length (m : Message) : m.payload.length = Machine.packedDlc m := by
  cases m with
  | sdoRequest _ c | sdoResponse _ c => exact encodeSdo_length c
  | nmt | sync | emcy | pdo | heartbeat => rfl

theorem payload_length_le {m : Message} (h : m.wf = true) : m.payload.length ≤ 8 := by
  rw [payload_length]
  cases m with
  | pdo node slot data =>
    simp only [Message.wf, Bool.and_eq_true, decide_eq_true_eq] at h
    exact h.2
  | nmt | sync | emcy | sdoRequest | sdoResponse | heartbeat => simp [Machine.packedDlc]

/-- A well-formed message has an identifier (R131). -/
theorem kind_admits_nodeOf {m : Message} (h : m.wf = true) : m.kind.Admits m.nodeOf := by
  cases m with
  | nmt | sync => rfl
  | emcy | heartbeat => exact node7_ne_zero h
  | pdo node slot data =>
    simp only [Message.wf, Bool.and_eq_true, decide_eq_true_eq] at h
    obtain ⟨⟨⟨hnode, h1⟩, h4⟩, -⟩ := h
    exact ⟨h1, h4, node7_ne_zero hnode⟩
  | sdoRequest | sdoResponse =>
    simp only [Message.wf, Bool.and_eq_true] at h
    exact node7_ne_zero h.1

/-- The payload stage of R104 undoes `payload_of` (R105). -/
theorem payloadResult_payload {m : Message} (h : m.wf = true) : payloadResult m.kind m.nodeOf m.payload = .ok m := by
  cases m with
  | nmt f target => exact nmtResult_of_code (nmtFunctionOf_nmtCode f) (of_decide_eq_true h) []
  | sync => rfl
  | emcy node code register data =>
    have hnode := node8_node7_of_isNodeId h
    simp [Message.kind, Message.nodeOf, Message.payload, payloadResult, decodeEmcy, emcyPayload, bytesLe16, Bytes5.toList,
      byteAt, hnode]
  | pdo node slot data =>
    simp only [Message.wf, Bool.and_eq_true, decide_eq_true_eq] at h
    obtain ⟨⟨⟨hnode, -⟩, -⟩, -⟩ := h
    simp only [Message.kind, Message.nodeOf, payloadResult, node8_node7_of_isNodeId hnode]
    rfl
  | sdoRequest node c =>
    simp only [Message.wf, Bool.and_eq_true] at h
    obtain ⟨hnode, hc⟩ := h
    have hres := sdoReqResult_ok (decodeSdoReq_encodeSdo hc) (node7 node)
    rwa [node8_node7_of_isNodeId hnode] at hres
  | sdoResponse node c =>
    simp only [Message.wf, Bool.and_eq_true] at h
    obtain ⟨hnode, hc⟩ := h
    have hres := sdoRspResult_ok (decodeSdoRsp_encodeSdo hc) (node7 node)
    rwa [node8_node7_of_isNodeId hnode] at hres
  | heartbeat node state =>
    have hnode := node8_node7_of_isNodeId h
    simp [Message.kind, Message.nodeOf, Message.payload, payloadResult, decodeHeartbeat, heartbeatPayload, byteAt, hnode]

theorem decodeMessage_eq {r : RawFrame} {f : CanFrame} {k : Kind} {nd : BitVec 7} (hparse : parseRaw r = .ok f)
    (hclass : classify f.id = .ok (k, nd)) : decodeMessage r = payloadResult k nd f.payload := by
  simp only [decodeMessage, hparse, hclass]

theorem decodeMessage_encode {m : Message} (h : m.wf = true) : decodeMessage m.encode = .ok m := by
  have hparse : parseRaw m.encode = .ok ⟨m.cobId, m.payload⟩ := parseRaw_packRaw _ (payload_length_le h)
  have hclass : classify m.cobId = .ok (m.kind, m.nodeOf) := classify_cobIdOf (kind_admits_nodeOf h)
  exact (decodeMessage_eq hparse hclass).trans (payloadResult_payload h)

/-! ## What a decoded frame holds (R103, R104) -/

theorem parseRaw_eq_ok {r : RawFrame} {f : CanFrame} (h : parseRaw r = .ok f) :
    r.dlc.toNat ≤ 8 ∧ f = ⟨r.id, r.data.toList.take r.dlc.toNat⟩ := by
  unfold parseRaw at h
  split at h
  · cases h
  · cases h; exact ⟨Nat.le_of_not_lt ‹_›, rfl⟩

theorem parseRaw_payload_length {r : RawFrame} {f : CanFrame} (h : parseRaw r = .ok f) :
    f.payload.length = r.dlc.toNat := by
  obtain ⟨hdlc, rfl⟩ := parseRaw_eq_ok h
  simp only [List.length_take, toList_length]
  omega

theorem decodeNmt_eq_ok {p : List Byte} {f : NmtFunction} {target : BitVec 7} (h : decodeNmt p = .ok (f, target)) :
    ∃ rest, p = nmtCode f :: node8 target :: rest := by
  unfold decodeNmt at h
  split at h
  · split at h
    · split at h
      · cases h
      · cases h
        have htarget := Nat.le_of_not_lt ‹_›
        rw [nmtCode_of_nmtFunctionOf _ _ ‹_›]
        exact ⟨_, congrArg (_ :: · :: _) (node8_node7 _ htarget).symm⟩
    · cases h
  · cases h
  · cases h

theorem decodeSdoReq_eq_ok {p : List Byte} {c : SdoCommand} (h : decodeSdoReq p = .ok c) :
    8 ≤ p.length ∧ c.isRequest = true := by
  unfold decodeSdoReq at h
  split at h
  · cases h
  · refine ⟨Nat.le_of_not_lt ‹_›, ?_⟩
    dsimp only at h
    split at h <;> cases h <;> rfl

theorem decodeSdoRsp_eq_ok {p : List Byte} {c : SdoCommand} (h : decodeSdoRsp p = .ok c) :
    8 ≤ p.length ∧ c.isResponse = true := by
  unfold decodeSdoRsp at h
  split at h
  · cases h
  · refine ⟨Nat.le_of_not_lt ‹_›, ?_⟩
    dsimp only at h
    split at h <;> cases h <;> rfl

/-- The messages the payload stage makes of a payload of at most eight bytes (R104). -/
inductive PayloadCase (nd : BitVec 7) : Kind → List Byte → Message → Prop where
  | nmt (f : NmtFunction) (target : BitVec 7) (rest : List Byte) :
    PayloadCase nd .nmt (nmtCode f :: node8 target :: rest) (.nmt f (node8 target))
  | sync (p : List Byte) : PayloadCase nd .sync p .sync
  | emcy (b : Bytes8) : PayloadCase nd .emcy b.toList (emcyOf nd b)
  | pdo (slot : PdoSlot) (p : List Byte) : PayloadCase nd (.pdo slot) p (.pdo (node8 nd) slot p)
  | sdoRsp (p : List Byte) (c : SdoCommand) (hc : decodeSdoRsp p = .ok c) :
    PayloadCase nd .sdoRsp p (.sdoResponse (node8 nd) c)
  | sdoReq (p : List Byte) (c : SdoCommand) (hc : decodeSdoReq p = .ok c) :
    PayloadCase nd .sdoReq p (.sdoRequest (node8 nd) c)
  | heartbeat (state : Byte) (rest : List Byte) :
    PayloadCase nd .heartbeat (state :: rest) (.heartbeat (node8 nd) state)

theorem map_eq_ok {α β : Type} {f : α → β} {x : Except ClassErr α} {b : β} (h : x.map f = .ok b) :
    ∃ a, x = .ok a ∧ f a = b := by
  cases x with
  | error e => cases h
  | ok a => cases h; exact ⟨a, rfl, rfl⟩

theorem payloadResult_cases {k : Kind} {nd : BitVec 7} {p : List Byte} {m : Message} (hp : p.length ≤ 8)
    (h : payloadResult k nd p = .ok m) : PayloadCase nd k p m := by
  cases k with
  | nmt =>
    obtain ⟨⟨f, target⟩, hft, rfl⟩ := map_eq_ok h
    obtain ⟨rest, rfl⟩ := decodeNmt_eq_ok hft
    exact .nmt f target rest
  | sync => cases h; exact .sync p
  | emcy =>
    change decodeEmcy (node8 nd) p = .ok m at h
    by_cases hshort : p.length < 8
    · cases (decodeEmcy_short (node8 nd) hshort).symm.trans h
    · obtain ⟨b, rfl⟩ := eight_bytes p (by omega)
      cases (decodeEmcy_toList nd b).symm.trans h
      exact .emcy b
  | pdo slot => cases h; exact .pdo slot p
  | sdoRsp =>
    obtain ⟨c, hc, rfl⟩ := map_eq_ok h
    exact .sdoRsp p c hc
  | sdoReq =>
    obtain ⟨c, hc, rfl⟩ := map_eq_ok h
    exact .sdoReq p c hc
  | heartbeat =>
    cases p with
    | nil => cases h
    | cons b rest => cases h; exact .heartbeat b rest

section
variable {nd : BitVec 7} {k : Kind} {p : List Byte} {m : Message}

theorem PayloadCase.kind_eq (h : PayloadCase nd k p m) : m.kind = k := by
  cases h <;> rfl

theorem PayloadCase.nodeOf_eq (h : PayloadCase nd k p m) (hk : k.Admits nd) : m.nodeOf = nd := by
  cases h with
  | nmt | sync => exact hk.symm
  | emcy | pdo | sdoRsp | sdoReq | heartbeat => exact node7_node8 nd

theorem PayloadCase.cobId_eq (h : PayloadCase nd k p m) (hk : k.Admits nd) : m.cobId = cobIdOf k nd := by
  rw [Message.cobId, h.kind_eq, h.nodeOf_eq hk]

theorem PayloadCase.wf (h : PayloadCase nd k p m) (hk : k.Admits nd) (hp : p.length ≤ 8) : m.wf = true := by
  cases h with
  | nmt f target rest => exact nmt_wf f target
  | sync => rfl
  | emcy | heartbeat => exact isNodeId_node8_of_ne_zero hk
  | pdo slot =>
    obtain ⟨h1, h4, hnd⟩ := hk
    simp [Message.wf, isNodeId_node8_of_ne_zero hnd, h1, h4, hp]
  | sdoRsp _ c hc => simp [Message.wf, isNodeId_node8_of_ne_zero hk, (decodeSdoRsp_eq_ok hc).2]
  | sdoReq _ c hc => simp [Message.wf, isNodeId_node8_of_ne_zero hk, (decodeSdoReq_eq_ok hc).2]

/-- A payload of the packed length is what the message packs to, but for the reserved bits and bytes of an SDO command. -/
theorem PayloadCase.payload_eq_iff (h : PayloadCase nd k p m) (hp : p.length = Machine.packedDlc m) :
    m.payload = p ↔ Machine.reservedZero m p := by
  cases h with
  | nmt f target rest =>
    obtain rfl : rest = [] := List.eq_nil_of_length_eq_zero (by simpa [Machine.packedDlc] using hp)
    exact iff_of_true rfl trivial
  | sync => exact iff_of_true (List.eq_nil_of_length_eq_zero hp).symm trivial
  | emcy b => exact iff_of_true (emcyOf_payload nd b) trivial
  | pdo => exact iff_of_true rfl trivial
  | sdoRsp _ c hc => exact Machine.encodeSdo_decodeSdoRsp_iff hp hc
  | sdoReq _ c hc => exact Machine.encodeSdo_decodeSdoReq_iff hp hc
  | heartbeat state rest =>
    obtain rfl : rest = [] := List.eq_nil_of_length_eq_zero (by simpa [Machine.packedDlc] using hp)
    exact iff_of_true rfl trivial

end

theorem decodeMessage_cases {r : RawFrame} {m : Message} (h : decodeMessage r = .ok m) :
    ∃ f k nd, parseRaw r = .ok f ∧ classify f.id = .ok (k, nd) ∧ f.payload.length ≤ 8 ∧
      PayloadCase nd k f.payload m := by
  cases hparse : parseRaw r with
  | error e => simp [decodeMessage, hparse] at h
  | ok f =>
    cases hclass : classify f.id with
    | error e => simp [decodeMessage, hparse, hclass] at h
    | ok kn =>
      obtain ⟨k, nd⟩ := kn
      have hlen : f.payload.length ≤ 8 := parseRaw_payload_length hparse ▸ (parseRaw_eq_ok hparse).1
      rw [decodeMessage_eq hparse hclass] at h
      exact ⟨f, k, nd, rfl, hclass, hlen, payloadResult_cases hlen h⟩

/-- R103: what `decode` gives lies in the domain of `encode`. -/
theorem decodeMessage_wf {r : RawFrame} {m : Message} (h : decodeMessage r = .ok m) : m.wf = true := by
  obtain ⟨f, k, nd, -, hclass, hlen, hcase⟩ := decodeMessage_cases h
  exact hcase.wf (classify_eq_ok hclass).1 hlen

/-! ## Encoding what was decoded (R112 (b)) -/

theorem byteAt_take {s : List Byte} {n i : Nat} (h : i < n) : byteAt (s.take n) i = byteAt s i := by
  simp [byteAt, h]

theorem byteAt_of_length_le {s : List Byte} {i : Nat} (h : s.length ≤ i) : byteAt s i = 0#8 :=
  List.getD_eq_default _ _ h

theorem padded_eq_iff {q : List Byte} {d : Bytes8} (hq : q.length ≤ 8) :
    Bytes8.padded q = d ↔ d.toList.take q.length = q ∧ Machine.zeroFrom d.toList q.length := by
  refine ⟨?_, fun ⟨htake, hzero⟩ => ?_⟩
  · rintro rfl
    refine ⟨take_pad_toList q hq, fun i hi hi' => ?_⟩
    rw [padded_toList_eq_append q hq]
    simp [byteAt, List.getElem?_append_right hi]
  · have hbyte (i : Nat) (hi : i < 8) : byteAt q i = byteAt d.toList i := by
      by_cases h : i < q.length
      · rw [← byteAt_take (s := d.toList) h, htake]
      · rw [byteAt_of_length_le (Nat.le_of_not_lt h), hzero i (Nat.le_of_not_lt h) hi]
    rw [← padded_toList d]
    simp [Bytes8.padded, hbyte]

/-- The frame `r` is packed from the payload `q`, its identifier apart (R102). -/
theorem packRaw_eq_iff {r : RawFrame} {q : List Byte} (hq : q.length ≤ 8) : packRaw ⟨r.id, q⟩ = r ↔
    r.dlc.toNat = q.length ∧ r.data.toList.take q.length = q ∧ Machine.zeroFrom r.data.toList q.length := by
  have hdlc : BitVec.ofNat 4 q.length = r.dlc ↔ r.dlc.toNat = q.length := by
    rw [← BitVec.toNat_inj, BitVec.toNat_ofNat, Nat.mod_eq_of_lt (by omega), eq_comm]
  obtain ⟨id, dlc, data⟩ := r
  rw [← padded_eq_iff hq, ← hdlc]
  simp [packRaw]

theorem reservedZero_take (m : Message) (d : Bytes8) :
    Machine.reservedZero m (d.toList.take (Machine.packedDlc m)) ↔ Machine.reservedZero m d.toList := by
  cases m <;> rfl

theorem encode_eq_iff_canonicalFrame {r : RawFrame} {m : Message} (h : decodeMessage r = .ok m) :
    m.encode.id = r.id ∧ (m.encode = r ↔ Machine.canonicalFrame r m) := by
  obtain ⟨f, k, nd, hparse, hclass, hlen, hcase⟩ := decodeMessage_cases h
  obtain ⟨hadmits, hid⟩ := classify_eq_ok hclass
  obtain ⟨-, rfl⟩ := parseRaw_eq_ok hparse
  have hcob : m.cobId = r.id := (hcase.cobId_eq hadmits).trans hid
  refine ⟨hcob, ?_⟩
  rw [Message.encode, hcob, packRaw_eq_iff (payload_length_le (decodeMessage_wf h)), payload_length]
  refine and_congr_right fun hdlc => ?_
  have hp := parseRaw_payload_length hparse
  rw [hdlc] at hcase hp
  rw [eq_comm, hcase.payload_eq_iff hp, reservedZero_take, hdlc, and_comm]

/-- Settles O4: `decodeMessage_encode`, which also gives (c), and the frames `encode` gives back. -/
theorem messageRoundTrip : Obligations.MessageRoundTrip :=
  ⟨fun _ => decodeMessage_encode, fun _ _ => encode_eq_iff_canonicalFrame, fun m m' h h' heq =>
    Except.ok.inj (by rw [← decodeMessage_encode h, heq, decodeMessage_encode h'])⟩

/-! ## Bytes beyond the length code (U9) -/

/-- Settles O8: all three decoders read a frame through `parseRaw`, which takes the bytes below the length code. -/
theorem bytesBeyondLengthUnread : Obligations.BytesBeyondLengthUnread := by
  intro id dlc d d' h
  have hparse : parseRaw ⟨id, dlc, d⟩ = parseRaw ⟨id, dlc, d'⟩ := by simp only [parseRaw, h]
  simp only [decodeMessage, decodeEvent, decodeFrame, hparse, and_self]

end Sys2Proof
end

section
/-! PROOFS. Instructions and their port values (30_encoding.md R84, R103): what the decoder gives is well-formed, and decoding the
encoding of a well-formed instruction gives it back. -/

namespace Sys2Proof

/-! ## The rows the decoder gives are well-formed (R103) -/

section
variable {port : Port} {nd : BitVec 7} {p : List Byte} {i : Instr}

theorem nmtInstr_wf (port : Port) (f : NmtFunction) (target : BitVec 7) : (nmtInstr port f target).wf = true := by
  cases f <;> rfl

theorem nodeFits_of_ne_zero (h : nd ≠ 0#7) : nodeFits nd = true := decide_eq_true h

theorem ne_zero_of_nodeFits (h : nodeFits nd = true) : nd ≠ 0#7 := of_decide_eq_true h

theorem sdoReqInstr_wf {c : SdoCommand} (hnd : nd ≠ 0#7) (h : sdoReqInstr port nd c = some i) : i.wf = true := by
  cases c <;> cases h <;> exact nodeFits_of_ne_zero hnd

theorem sdoRspInstr_wf {c : SdoCommand} (hnd : nd ≠ 0#7) (h : sdoRspInstr port nd c = some i) : i.wf = true := by
  cases c <;> cases h <;> exact nodeFits_of_ne_zero hnd

theorem sdoReqInstr_isSome {c : SdoCommand} (h : c.isRequest = true) (port : Port) (nd : BitVec 7) :
    ∃ i, sdoReqInstr port nd c = some i := by
  cases c <;> cases h <;> exact ⟨_, rfl⟩

theorem sdoRspInstr_isSome {c : SdoCommand} (h : c.isResponse = true) (port : Port) (nd : BitVec 7) :
    ∃ i, sdoRspInstr port nd c = some i := by
  cases c <;> cases h <;> exact ⟨_, rfl⟩

theorem pdoInstr_wf {slot : PdoSlot} (hnd : nd ≠ 0#7) (hp : p.length ≤ 8) (h : pdoInstr port slot nd p = some i) :
    i.wf = true := by
  unfold pdoInstr at h
  split at h <;> cases h <;> simp [Instr.wf, nodeFits_of_ne_zero hnd, hp]

/-! The rows of the three identifiers that have forms, by what the payload's decoder gives. -/

theorem nmtFrameInstr_of_ok {f : NmtFunction} {target : BitVec 7} (h : decodeNmt p = .ok (f, target)) :
    nmtFrameInstr port p = nmtInstr port f target := by
  simp only [nmtFrameInstr, h]

theorem nmtFrameInstr_of_malformed (h : isMalformed (decodeNmt p) = true) : nmtFrameInstr port p = .nmt port p := by
  unfold nmtFrameInstr
  split
  next hok => simp [hok, isMalformed] at h
  next => rfl

theorem sdoReqFrameInstr_of_ok {c : SdoCommand} (h : decodeSdoReq p = .ok c) :
    sdoReqInstr port nd c = some (sdoReqFrameInstr port nd p) := by
  obtain ⟨i, hi⟩ := sdoReqInstr_isSome (decodeSdoReq_eq_ok h).2 port nd
  simp only [sdoReqFrameInstr, h, hi, Option.getD_some]

theorem sdoReqFrameInstr_of_malformed (h : isMalformed (decodeSdoReq p) = true) :
    sdoReqFrameInstr port nd p = .sdoReq port nd p := by
  unfold sdoReqFrameInstr
  split
  next hok => simp [hok, isMalformed] at h
  next => rfl

theorem sdoRspFrameInstr_of_ok {c : SdoCommand} (h : decodeSdoRsp p = .ok c) :
    sdoRspInstr port nd c = some (sdoRspFrameInstr port nd p) := by
  obtain ⟨i, hi⟩ := sdoRspInstr_isSome (decodeSdoRsp_eq_ok h).2 port nd
  simp only [sdoRspFrameInstr, h, hi, Option.getD_some]

theorem sdoRspFrameInstr_of_malformed (h : isMalformed (decodeSdoRsp p) = true) :
    sdoRspFrameInstr port nd p = .sdoRsp port nd p := by
  unfold sdoRspFrameInstr
  split
  next hok => simp [hok, isMalformed] at h
  next => rfl

theorem formlessFits_of {α : Type} {dec : Except ClassErr α} (hport : port ≠ .pack) (hp : p.length ≤ 8)
    (hdec : isMalformed dec = true) : formlessFits port p dec = true := by
  cases port with
  | rx | parse => simp [formlessFits, hp, hdec]
  | pack => exact absurd rfl hport

theorem payloadFits_of {n : Nat} (hport : port ≠ .pack) (hp : p.length ≤ 8) : payloadFits port n p = true := by
  cases port with
  | rx | parse => simp [payloadFits, hp]
  | pack => exact absurd rfl hport

/-- A received frame's row is well-formed. -/
theorem frameInstr_wf {k : Kind} (hport : port ≠ .pack) (hk : k.Admits nd) (hp : p.length ≤ 8)
    (h : frameInstr port k nd p = some i) : i.wf = true := by
  cases k with
  | nmt =>
    cases h
    cases hdec : decodeNmt p with
    | ok ft =>
      rw [nmtFrameInstr_of_ok hdec]
      exact nmtInstr_wf ..
    | error e =>
      have hbad : isMalformed (decodeNmt p) = true := by rw [hdec]; rfl
      rw [nmtFrameInstr_of_malformed hbad]
      exact formlessFits_of hport hp hbad
  | sync => cases h; exact payloadFits_of hport hp
  | emcy => cases h; simp [Instr.wf, nodeFits_of_ne_zero hk, payloadFits_of hport hp]
  | heartbeat => cases h; simp [Instr.wf, nodeFits_of_ne_zero hk, payloadFits_of hport hp]
  | pdo slot => exact pdoInstr_wf hk.2.2 hp h
  | sdoRsp =>
    cases h
    cases hdec : decodeSdoRsp p with
    | ok c => exact sdoRspInstr_wf hk (sdoRspFrameInstr_of_ok hdec)
    | error e =>
      have hbad : isMalformed (decodeSdoRsp p) = true := by rw [hdec]; rfl
      rw [sdoRspFrameInstr_of_malformed hbad]
      simp [Instr.wf, nodeFits_of_ne_zero hk, formlessFits_of hport hp hbad]
  | sdoReq =>
    cases h
    cases hdec : decodeSdoReq p with
    | ok c => exact sdoReqInstr_wf hk (sdoReqFrameInstr_of_ok hdec)
    | error e =>
      have hbad : isMalformed (decodeSdoReq p) = true := by rw [hdec]; rfl
      rw [sdoReqFrameInstr_of_malformed hbad]
      simp [Instr.wf, nodeFits_of_ne_zero hk, formlessFits_of hport hp hbad]

/-- The row of a well-formed message is well-formed. -/
theorem messageInstr_wf {m : Message} (hm : m.wf = true) (h : messageInstr m = some i) : i.wf = true := by
  have hk := kind_admits_nodeOf hm
  cases m with
  | nmt f target => cases h; exact nmtInstr_wf ..
  | sync => cases h; rfl
  | emcy node code register data =>
    cases h
    exact Bool.and_eq_true_iff.mpr ⟨nodeFits_of_ne_zero hk, rfl⟩
  | pdo node slot data => exact pdoInstr_wf hk.2.2 (payload_length_le hm) h
  | sdoRequest node c => exact sdoReqInstr_wf hk h
  | sdoResponse node c => exact sdoRspInstr_wf hk h
  | heartbeat node state =>
    cases h
    exact Bool.and_eq_true_iff.mpr ⟨nodeFits_of_ne_zero hk, rfl⟩

end

theorem decodeFrame_eq_instr {port : Port} {r : RawFrame} {i : Instr} (h : decodeFrame port r = .instr i) :
    ∃ f k nd, parseRaw r = .ok f ∧ classify f.id = .ok (k, nd) ∧ frameInstr port k nd f.payload = some i := by
  unfold decodeFrame at h
  split at h
  · cases h
  next f hparse =>
    split at h
    · cases h
    next k nd hclass =>
      split at h
      next hrow => cases h; exact ⟨f, k, nd, hparse, hclass, hrow⟩
      · cases h

theorem decodeFrame_wf {port : Port} {r : RawFrame} {i : Instr} (hport : port ≠ .pack)
    (h : decodeFrame port r = .instr i) : i.wf = true := by
  obtain ⟨f, k, nd, hparse, hclass, hrow⟩ := decodeFrame_eq_instr h
  have hlen : f.payload.length ≤ 8 := parseRaw_payload_length hparse ▸ (parseRaw_eq_ok hparse).1
  exact frameInstr_wf hport (classify_eq_ok hclass).1 hlen hrow

theorem decodePack_eq_instr {m : Message} {i : Instr} (h : decodePack m = .instr i) :
    m.wf = true ∧ messageInstr m = some i := by
  unfold decodePack at h
  split at h
  · split at h
    next hrow => cases h; exact ⟨‹_›, hrow⟩
    · cases h
  · cases h

theorem decodeCmd_wf {c : RawCmd} {i : Instr} (h : decodeCmd c = .instr i) : i.wf = true := by
  unfold decodeCmd at h
  split at h <;> cases h <;> rfl

theorem decodeEvent_wf {ev : Event} {i : Instr} (h : decodeEvent ev = .instr i) : i.wf = true := by
  cases ev with
  | cmd c => exact decodeCmd_wf h
  | rx r => exact decodeFrame_wf (port := .rx) nofun h
  | parse r => exact decodeFrame_wf (port := .parse) nofun h
  | pack m =>
    obtain ⟨hm, hrow⟩ := decodePack_eq_instr h
    exact messageInstr_wf hm hrow
  | timeout | rxIoError | reset => cases h

/-- Settles O7: port by port for the instructions, kind by kind for the messages. -/
theorem decodedIsWellFormed : Obligations.DecodedIsWellFormed :=
  ⟨fun _ _ => decodeEvent_wf, fun _ _ => decodeMessage_wf⟩

/-! ## Decoding the encoding of an instruction (R84) -/

/-- The row of a message is the row of the frame it packs to. -/
theorem messageInstr_eq_frameInstr {m : Message} (h : m.wf = true) :
    messageInstr m = frameInstr .pack m.kind m.nodeOf m.payload := by
  cases m with
  | nmt f target =>
    have htarget := Nat.not_lt.mpr (of_decide_eq_true h)
    have hdec : decodeNmt [nmtCode f, target] = .ok (f, node7 target) := by simp [decodeNmt, htarget, node7]
    exact congrArg some (nmtFrameInstr_of_ok hdec).symm
  | sync | emcy | pdo | heartbeat => rfl
  | sdoRequest node c =>
    simp only [Message.wf, Bool.and_eq_true] at h
    exact sdoReqFrameInstr_of_ok (decodeSdoReq_encodeSdo h.2)
  | sdoResponse node c =>
    simp only [Message.wf, Bool.and_eq_true] at h
    exact sdoRspFrameInstr_of_ok (decodeSdoRsp_encodeSdo h.2)

/-- The frame form `f` stands for the instruction `i`: its frame is classified, its row is `i`, and on `PACK` it is the frame of a
well-formed message. -/
structure Form.StandsFor (f : Form) (i : Instr) (k : Kind) (nd : BitVec 7) : Prop where
  payload_le : f.payload.length ≤ 8
  id_eq : f.id = cobIdOf k nd
  admits : k.Admits nd
  row : frameInstr f.port k nd f.payload = some i
  packed : f.port = .pack → ∃ m : Message,
    f.result = .ok m ∧ m.wf = true ∧ m.kind = k ∧ m.nodeOf = nd ∧ m.payload = f.payload

theorem Form.StandsFor.decodeFrame_packRaw {f : Form} {i : Instr} {k : Kind} {nd : BitVec 7} (h : f.StandsFor i k nd) :
    decodeFrame f.port (packRaw ⟨f.id, f.payload⟩) = .instr i := by
  have hclass : classify f.id = .ok (k, nd) := by rw [h.id_eq]; exact classify_cobIdOf h.admits
  simp only [decodeFrame, parseRaw_packRaw ⟨f.id, f.payload⟩ h.payload_le, hclass, h.row]

theorem Form.StandsFor.decode_event {f : Form} {i : Instr} {k : Kind} {nd : BitVec 7} (h : f.StandsFor i k nd) :
    ∃ ev, f.event = some ev ∧ decodeEvent ev = .instr i := by
  have hframe := h.decodeFrame_packRaw
  unfold Form.event
  cases hport : f.port with
  | rx => rw [hport] at hframe; exact ⟨_, rfl, hframe⟩
  | parse => rw [hport] at hframe; exact ⟨_, rfl, hframe⟩
  | pack =>
    obtain ⟨m, hres, hm, rfl, rfl, hp⟩ := h.packed hport
    have hrow : messageInstr m = some i := by rw [messageInstr_eq_frameInstr hm, hp, ← hport, h.row]
    rw [hres]
    exact ⟨_, rfl, by simp only [decodeEvent, decodePack, hm, hrow, if_true]⟩

/-- A form that fixes the whole message stands for the row of that message's payload. -/
theorem standsFor_ofMessage {port : Port} {m : Message} {i : Instr} (hm : m.wf = true)
    (hrow : frameInstr port m.kind m.nodeOf m.payload = some i) :
    (Form.ofMessage port m).StandsFor i m.kind m.nodeOf :=
  ⟨payload_length_le hm, rfl, kind_admits_nodeOf hm, hrow, fun _ => ⟨m, rfl, hm, rfl, rfl, rfl⟩⟩

theorem standsFor_nmt (port : Port) (f : NmtFunction) (target : BitVec 7) :
    (Form.ofMessage port (.nmt f (node8 target))).StandsFor (nmtInstr port f target) .nmt 0#7 := by
  have hwf := nmt_wf f target
  have htarget := Nat.not_lt.mpr (of_decide_eq_true hwf)
  have hdec : decodeNmt [nmtCode f, node8 target] = .ok (f, target) := by
    have hnode : (node8 target).setWidth 7 = target := node7_node8 target
    simp [decodeNmt, htarget, hnode]
  exact standsFor_ofMessage hwf (congrArg some (nmtFrameInstr_of_ok hdec))

theorem standsFor_request {port : Port} {nd : BitVec 7} {c : SdoCommand} {i : Instr} (hnd : nodeFits nd = true)
    (hrow : sdoReqInstr port nd c = some i) :
    (Form.ofMessage port (.sdoRequest (node8 nd) c)).StandsFor i .sdoReq (node7 (node8 nd)) := by
  have hc : c.isRequest = true := by cases c <;> cases hrow <;> rfl
  have hwf : (Message.sdoRequest (node8 nd) c).wf = true := by simp [Message.wf, isNodeId_node8, hnd, hc]
  rw [← node7_node8 nd] at hrow
  exact standsFor_ofMessage hwf ((sdoReqFrameInstr_of_ok (decodeSdoReq_encodeSdo hc)).symm.trans hrow)

theorem standsFor_response {port : Port} {nd : BitVec 7} {c : SdoCommand} {i : Instr} (hnd : nodeFits nd = true)
    (hrow : sdoRspInstr port nd c = some i) :
    (Form.ofMessage port (.sdoResponse (node8 nd) c)).StandsFor i .sdoRsp (node7 (node8 nd)) := by
  have hc : c.isResponse = true := by cases c <;> cases hrow <;> rfl
  have hwf : (Message.sdoResponse (node8 nd) c).wf = true := by simp [Message.wf, isNodeId_node8, hnd, hc]
  rw [← node7_node8 nd] at hrow
  exact standsFor_ofMessage hwf ((sdoRspFrameInstr_of_ok (decodeSdoRsp_encodeSdo hc)).symm.trans hrow)

/-- An identifier row stands for its payload, which on `PACK` has the packed form. -/
theorem standsFor_ofKind {port : Port} {k : Kind} {nd : BitVec 7} {p : List Byte} {i : Instr} (hk : k.Admits nd)
    (hp : p.length ≤ 8) (hrow : frameInstr port k nd p = some i)
    (hpack : port = .pack → ∃ m,
      payloadResult k nd p = .ok m ∧ p.length = Machine.packedDlc m ∧ Machine.reservedZero m p) :
    (Form.ofKind port k nd p).StandsFor i k nd := by
  refine ⟨hp, rfl, hk, hrow, fun hport => ?_⟩
  obtain ⟨m, hres, hlen, hzero⟩ := hpack hport
  have hcase := payloadResult_cases hp hres
  exact ⟨m, hres, hcase.wf hk hp, hcase.kind_eq, hcase.nodeOf_eq hk, (hcase.payload_eq_iff hlen).mpr hzero⟩

section
variable {port : Port} {nd : BitVec 7} {p : List Byte}

theorem formlessFits_iff {α : Type} {dec : Except ClassErr α} :
    formlessFits port p dec = true ↔ port ≠ .pack ∧ p.length ≤ 8 ∧ isMalformed dec = true := by
  cases port <;> simp [formlessFits]

theorem payloadFits_pack {n : Nat} (h : payloadFits port n p = true) (hport : port = .pack) : p.length = n := by
  subst hport
  exact of_decide_eq_true h

theorem standsFor_formlessNmt (h : formlessFits port p (decodeNmt p) = true) :
    (Form.ofKind port .nmt 0#7 p).StandsFor (.nmt port p) .nmt 0#7 := by
  obtain ⟨hport, hp, hbad⟩ := formlessFits_iff.mp h
  exact standsFor_ofKind rfl hp (congrArg some (nmtFrameInstr_of_malformed hbad)) fun h => absurd h hport

theorem standsFor_formlessRsp (hnd : nodeFits nd = true) (h : formlessFits port p (decodeSdoRsp p) = true) :
    (Form.ofKind port .sdoRsp nd p).StandsFor (.sdoRsp port nd p) .sdoRsp nd := by
  obtain ⟨hport, hp, hbad⟩ := formlessFits_iff.mp h
  exact standsFor_ofKind (k := .sdoRsp) (ne_zero_of_nodeFits hnd) hp (congrArg some (sdoRspFrameInstr_of_malformed hbad))
    fun h => absurd h hport

theorem standsFor_formlessReq (hnd : nodeFits nd = true) (h : formlessFits port p (decodeSdoReq p) = true) :
    (Form.ofKind port .sdoReq nd p).StandsFor (.sdoReq port nd p) .sdoReq nd := by
  obtain ⟨hport, hp, hbad⟩ := formlessFits_iff.mp h
  exact standsFor_ofKind (k := .sdoReq) (ne_zero_of_nodeFits hnd) hp (congrArg some (sdoReqFrameInstr_of_malformed hbad))
    fun h => absurd h hport

theorem standsFor_sync (h : payloadFits port 0 p = true) :
    (Form.ofKind port .sync 0#7 p).StandsFor (.sync port p) .sync 0#7 :=
  standsFor_ofKind rfl (Laws.EncodedFrame.payloadFits_length port 0 p (by omega) h) rfl
    fun hport => ⟨_, rfl, payloadFits_pack h hport, trivial⟩

theorem standsFor_emcy (h : (Instr.emcy port nd p).wf = true) :
    (Form.ofKind port .emcy nd p).StandsFor (.emcy port nd p) .emcy nd := by
  obtain ⟨hnd, hfits⟩ := Bool.and_eq_true_iff.mp h
  refine standsFor_ofKind (k := .emcy) (ne_zero_of_nodeFits hnd)
    (Laws.EncodedFrame.payloadFits_length port 8 p (by omega) hfits) rfl fun hport => ?_
  have hlen := payloadFits_pack hfits hport
  exact ⟨_, if_neg (by omega), hlen, trivial⟩

theorem standsFor_heartbeat (h : (Instr.heartbeat port nd p).wf = true) :
    (Form.ofKind port .heartbeat nd p).StandsFor (.heartbeat port nd p) .heartbeat nd := by
  obtain ⟨hnd, hfits⟩ := Bool.and_eq_true_iff.mp h
  refine standsFor_ofKind (k := .heartbeat) (ne_zero_of_nodeFits hnd)
    (Laws.EncodedFrame.payloadFits_length port 1 p (by omega) hfits) rfl fun hport => ?_
  have hlen := payloadFits_pack hfits hport
  exact ⟨_, if_neg (by omega), hlen, trivial⟩

theorem standsFor_pdo {i : Instr} (k : Fin 4) (dir : PdoDir) (h : (nodeFits nd && decide (p.length ≤ 8)) = true)
    (hrow : pdoInstr port ⟨k.val + 1, dir⟩ nd p = some i) :
    (Form.ofKind port (.pdo ⟨k.val + 1, dir⟩) nd p).StandsFor i (.pdo ⟨k.val + 1, dir⟩) nd := by
  obtain ⟨hnd, hp⟩ := Bool.and_eq_true_iff.mp h
  have hadmits : (Kind.pdo ⟨k.val + 1, dir⟩).Admits nd := ⟨Nat.le_add_left .., k.isLt, ne_zero_of_nodeFits hnd⟩
  exact standsFor_ofKind hadmits (of_decide_eq_true hp) hrow fun _ => ⟨_, rfl, rfl, trivial⟩

end

/-- Constructor by constructor: the frame forms by their layout, the host commands by their opcode. -/
theorem decode_encode {i : Instr} (h : i.wf = true) : ∃ ev, encode i = some ev ∧ decodeEvent ev = .instr i := by
  cases i with
  | nmt port p => exact (standsFor_formlessNmt h).decode_event
  | sync port p => exact (standsFor_sync h).decode_event
  | emcy port node p => exact (standsFor_emcy h).decode_event
  | tpdo1 port node p => exact (standsFor_pdo 0 .tx h rfl).decode_event
  | rpdo1 port node p => exact (standsFor_pdo 0 .rx h rfl).decode_event
  | tpdo2 port node p => exact (standsFor_pdo 1 .tx h rfl).decode_event
  | rpdo2 port node p => exact (standsFor_pdo 1 .rx h rfl).decode_event
  | tpdo3 port node p => exact (standsFor_pdo 2 .tx h rfl).decode_event
  | rpdo3 port node p => exact (standsFor_pdo 2 .rx h rfl).decode_event
  | tpdo4 port node p => exact (standsFor_pdo 3 .tx h rfl).decode_event
  | rpdo4 port node p => exact (standsFor_pdo 3 .rx h rfl).decode_event
  | sdoRsp port node p =>
    obtain ⟨hnd, hfits⟩ := Bool.and_eq_true_iff.mp h
    exact (standsFor_formlessRsp hnd hfits).decode_event
  | sdoReq port node p =>
    obtain ⟨hnd, hfits⟩ := Bool.and_eq_true_iff.mp h
    exact (standsFor_formlessReq hnd hfits).decode_event
  | heartbeat port node p => exact (standsFor_heartbeat h).decode_event
  | sdoDlSegReq | sdoDlInitReq | sdoUlInitReq | sdoUlSegReq | sdoAbortReq => exact (standsFor_request h rfl).decode_event
  | sdoUlSegRsp | sdoDlSegRsp | sdoUlInitRsp | sdoDlInitRsp | sdoAbortRsp => exact (standsFor_response h rfl).decode_event
  | nmtStartRemoteNode port target => exact (standsFor_nmt port .startRemoteNode target).decode_event
  | nmtStopRemoteNode port target => exact (standsFor_nmt port .stopRemoteNode target).decode_event
  | nmtEnterPreOperational port target => exact (standsFor_nmt port .enterPreOperational target).decode_event
  | nmtResetNode port target => exact (standsFor_nmt port .resetNode target).decode_event
  | nmtResetCommunication port target => exact (standsFor_nmt port .resetCommunication target).decode_event
  | nop | send | sdoRead | sdoWrite | ack => exact ⟨_, rfl, rfl⟩

/-- Settles O6: `decode_encode`. -/
theorem instructionRoundTrip : Obligations.InstructionRoundTrip := fun _ => decode_encode

/-- Settles O9: each frame's length code, identifier and command byte are literals, so the decoder computes its row. -/
theorem writtenOutFramesDecode : Obligations.WrittenOutFramesDecode := ⟨rfl, rfl, rfl, rfl, rfl⟩

end Sys2Proof
end

section
/-! PROOFS. One step, said once (44_sdo_state_machine.md R190, R222): the codec ports, every next state a step can answer, and what is
immediate from it. -/

namespace Sys2Proof.Machine

/-! ## The codec ports (R104, R105, R113) -/

/-- The row of a well-formed message stands, on `PACK`, for that message. -/
theorem messageInstr_view {m : Message} (hm : m.wf = true) :
    ∃ i f, messageInstr m = some i ∧ i.view = .frame f ∧ f.port = .pack ∧ f.result = .ok m := by
  have hrow : ∃ i, frameInstr .pack m.kind m.nodeOf m.payload = some i := by
    have hk := kind_admits_nodeOf hm
    cases m with
    | pdo node slot data =>
      obtain ⟨h1, h4, -⟩ := hk
      exact pdoInstr_some _ _ _ _ h1 h4
    | nmt | sync | emcy | sdoRequest | sdoResponse | heartbeat => exact ⟨_, rfl⟩
  obtain ⟨i, hi⟩ := hrow
  obtain ⟨f, hv, hport, hres⟩ := frameInstr_view _ _ _ _ _ hi
  exact ⟨i, f, (messageInstr_eq_frameInstr hm).trans hi, hv, hport, hres.trans (payloadResult_payload hm)⟩

section
variable {s : State} {d : Delivery} {rest : List Delivery} (hin : s.inputs = d :: rest)
include hin

theorem step_instr {i : Instr} (hdec : decodeEvent d.ev = .instr i) : step s = exec i (s.took d rest) := by
  rw [step_eq_carryOut hin, hdec]
  rfl

theorem step_parse {r : RawFrame} (hev : d.ev = .parse r) :
    step s = .next (emitParse (s.took d rest) (decodeMessage r)) := by
  rw [step_eq_carryOut hin, hev]
  rcases decodeFrame_result .parse r with ⟨i, f, hdec, hv, hport, hres⟩ | ⟨e, hdec, hres⟩
  · have hexec := exec_frame i f (s.took d rest) hv
    rw [hport, hres] at hexec
    simp only [decodeEvent, hdec]
    exact hexec
  · simp only [decodeEvent, hdec, hres]
    rfl

theorem step_pack {m : Message} (hev : d.ev = .pack m) :
    step s = .next (emitPack (s.took d rest) (packAnswer m)) := by
  rw [step_eq_carryOut hin, hev]
  cases hm : m.wf with
  | true =>
    obtain ⟨i, f, hrow, hv, hport, hres⟩ := messageInstr_view hm
    have hexec := exec_frame i f (s.took d rest) hv
    rw [hport, hres] at hexec
    simp only [decodeEvent, decodePack, hm, if_true, hrow]
    exact hexec
  | false =>
    simp only [decodeEvent, decodePack, packAnswer, hm, Bool.false_eq_true, if_false]
    rfl

theorem step_reset (hev : d.ev = .reset) : step s = .next (onReset (s.took d rest)) := by
  rw [step_eq_carryOut hin, hev]
  rfl

end

/-- Settles O39: on either port the step is the one answer of that port, in the state that took the delivery. -/
theorem codecPortsTouchNothing : Obligations.CodecPortsTouchNothing := by
  refine ⟨fun s d rest hin hev => ?_, fun s d rest m hin hev => step_pack hin hev, fun s d rest r hin hev => ?_⟩
  · rcases hev with ⟨r, hev⟩ | ⟨m, hev⟩
    · exact ⟨_, step_parse hin hev, rfl, rfl, rfl, rfl, rfl⟩
    · exact ⟨_, step_pack hin hev, rfl, rfl, rfl, rfl, rfl⟩
  · rw [step_parse hin hev]
    cases decodeMessage r <;> rfl

/-- Settles O11: `step_instr`. -/
theorem stepRunsDecoded : Obligations.StepRunsDecoded := fun _ _ _ _ hin hdec => step_instr hin hdec

/-- Settles O57: the record reset drops to is `X0`. -/
theorem resetDiscardsTransfer : Obligations.ResetDiscardsTransfer := fun _ _ _ => step_reset

theorem step_noEvent {s : State} (h : s.inputs = []) : step s = .fault .noEvent := by
  unfold step fetch
  rw [h]

/-- Settles O12: the four events of R190 by O13, the ports and reset by their equations. -/
theorem stepAnswersEveryEvent : Obligations.StepAnswersEveryEvent := by
  refine ⟨fun s => step_noEvent, fun s hinv hne => ?_⟩
  obtain ⟨d, rest, hin⟩ := List.exists_cons_of_ne_nil hne
  cases hev : d.ev with
  | cmd | rx | timeout | rxIoError => exact ⟨_, stepIsTheSpecsStep s d rest _ hinv hin (by rw [hev]; rfl)⟩
  | parse r => exact ⟨_, step_parse hin hev⟩
  | pack m => exact ⟨_, step_pack hin hev⟩
  | reset => exact ⟨_, step_reset hin hev⟩

/-! ## Every next state of a step -/

/-- The error kinds of each terminal state (R31, R260). -/
inductive EndsIn : St → ErrKind → Prop where
  | timeout : EndsIn .timedOut .timeout
  | remoteAbort : EndsIn .aborted .remoteAbort
  | notInterpreted : EndsIn .aborted .unexpectedResponse
  | bufferOverflow : EndsIn .aborted .bufferOverflow
  | toggleMismatch : EndsIn .error .toggleMismatch
  | unexpectedResponse : EndsIn .error .unexpectedResponse
  | unknownFunctionCode : EndsIn .error .classUnknownFunctionCode
  | malformedPayload : EndsIn .error .classMalformedPayload
  | transportError : EndsIn .error .transportError

/-- The states a step on the event `ev` can answer, in the state `u` that took the delivery. -/
inductive StepCase (u : State) (ev : Event) : State → Prop where
  /-- Ignored (R192), refused (R246), or `NOP` (R245). -/
  | kept (resp : Option HostResponse) : StepCase u ev (u.after u.x none resp)
  | parsed (res : Except ClassErr Message) : StepCase u ev (emitParse u res)
  | packed (a : PackAnswer) : StepCase u ev (emitPack u a)
  /-- `SEND` (R241). -/
  | sent (c : RawCmd) (hev : ev = .cmd c) (f : RawFrame) (resp : Option HostResponse) :
    StepCase u ev (u.after u.x (some f) resp)
  /-- An accepted `SDO_READ` (R242). -/
  | readStarted (c : RawCmd) (hev : ev = .cmd c) (hidle : u.x.st = .idle) (hnode : isNodeId c.node = true) (f : RawFrame) :
    StepCase u ev (u.afterOffer (newUpload c.node c.index c.sub) f (some .accepted))
  /-- An accepted `SDO_WRITE` (R243). -/
  | writeStarted (c : RawCmd) (hev : ev = .cmd c) (hidle : u.x.st = .idle) (hnode : isNodeId c.node = true)
    (hlen : ¬ (c.data.length = 0 ∨ u.cfg.bufMax < c.data.length)) (f : RawFrame) :
    StepCase u ev (u.afterOffer (newDownload c.node c.index c.sub c.data) f (some .accepted))
  /-- An accepted `ACK` (R244), or reset (R291). -/
  | dropped (resp : Option HostResponse) : StepCase u ev (u.after .x0 none resp)
  /-- A waiting transfer ended without a frame and without a response of the addressed node (R193 to R195, R214, R215). -/
  | ended (hw : u.x.Waits) (st : St) (k : ErrKind) (hk : EndsIn st k) (hst : st ≠ .aborted) :
    StepCase u ev (u.after (raise u.x st k) none none)
  /-- A response of the addressed node, R216 applied. -/
  | answered (hw : u.x.Waits) (r : RawFrame) (hev : ev = .rx r) (cmd : SdoCommand)
    (hdec : decodeMessage r = .ok (.sdoResponse (node8 u.x.node) cmd)) (x1 : Xfer) (tx : Option RawFrame)
    (hcase : ResponseCase u.cfg u.x cmd x1 tx) : StepCase u ev (emit u (finish x1 tx u.txOk) tx none)

section
variable {u t : State}

theorem execSend_stepCase (c : RawCmd) (h : execSend c.msg u = .next t) : StepCase u (.cmd c) t := by
  by_cases hw : u.x.Waits
  · cases (execSend_busy hw).symm.trans h
    exact .kept _
  · cases hm : c.msg.wf with
    | true =>
      cases (execSend_offer hw hm).symm.trans h
      exact .sent c rfl _ _
    | false =>
      cases (execSend_badMessage hw hm).symm.trans h
      exact .kept _

theorem execSdoRead_stepCase (c : RawCmd) (h : execSdoRead c.node c.index c.sub u = .next t) : StepCase u (.cmd c) t := by
  by_cases hst : u.x.st = .idle
  · cases hnode : isNodeId c.node with
    | true =>
      cases (execSdoRead_accepted hst hnode).symm.trans h
      exact .readStarted c rfl hst hnode _
    | false =>
      cases (execSdoRead_badNode hst hnode).symm.trans h
      exact .kept _
  · cases (execSdoRead_notIdle hst c.node c.index c.sub).symm.trans h
    exact .kept _

theorem execSdoWrite_stepCase (c : RawCmd) (h : execSdoWrite c.node c.index c.sub c.data u = .next t) :
    StepCase u (.cmd c) t := by
  by_cases hst : u.x.st = .idle
  · cases hnode : isNodeId c.node with
    | true =>
      by_cases hlen : c.data.length = 0 ∨ u.cfg.bufMax < c.data.length
      · cases (execSdoWrite_badLength hst hnode hlen).symm.trans h
        exact .kept _
      · cases (execSdoWrite_accepted hst hnode hlen).symm.trans h
        exact .writeStarted c rfl hst hnode hlen _
    | false =>
      cases (execSdoWrite_badNode hst hnode).symm.trans h
      exact .kept _
  · cases (execSdoWrite_notIdle hst c.node c.index c.sub c.data).symm.trans h
    exact .kept _

theorem execAck_stepCase (c : RawCmd) (h : execAck u = .next t) : StepCase u (.cmd c) t := by
  by_cases hterm : u.x.terminal = true
  · cases (execAck_terminal hterm).symm.trans h
    exact .dropped _
  · cases (execAck_not_terminal hterm).symm.trans h
    exact .kept _

/-- The opcodes of R85, and those above them. -/
theorem carryOut_cmd_stepCase (c : RawCmd) (h : carryOut (decodeCmd c) u = .next t) : StepCase u (.cmd c) t := by
  unfold decodeCmd at h
  split at h
  case h_1 => cases h; exact .kept _
  case h_2 => exact execSend_stepCase c h
  case h_3 => exact execSdoRead_stepCase c h
  case h_4 => exact execSdoWrite_stepCase c h
  case h_5 => exact execAck_stepCase c h
  case h_6 => cases h; exact .kept _

theorem endTransfer_stepCase (u : State) (ev : Event) {st : St} {k : ErrKind} (hk : EndsIn st k) (hst : st ≠ .aborted) :
    StepCase u ev (endTransfer u st k) := by
  by_cases hw : u.x.Waits
  · rw [endTransfer_waits hw]
    exact .ended hw st k hk hst
  · rw [endTransfer_not_waits hw]
    exact .kept none

theorem receive_stepCase {r : RawFrame} (h : receive (decodeMessage r) u = .next t) : StepCase u (.rx r) t := by
  rcases receive_next _ u t h with ⟨hwaiting, x1, tx, hrx, rfl⟩ | ⟨-, rfl⟩
  · have hw := (waiting_iff u.x).mp hwaiting
    rcases onRx_cases u.cfg u.x x1 _ tx hrx with ⟨e, -, rfl, rfl⟩ | ⟨m, -, -, rfl, rfl⟩ | ⟨cmd, hdec, hresp⟩
    · cases e with
      | unknownFunctionCode => exact .ended hw .error _ .unknownFunctionCode nofun
      | malformedPayload => exact .ended hw .error _ .malformedPayload nofun
    · exact .ended hw .error _ .unexpectedResponse nofun
    · exact .answered hw r rfl cmd hdec x1 tx (onResponse_cases u.cfg u.x x1 cmd tx hresp)
  · exact .kept none

end

theorem step_cases {s t : State} {d : Delivery} {rest : List Delivery} (hin : s.inputs = d :: rest)
    (h : step s = .next t) : StepCase (s.took d rest) d.ev t := by
  cases hev : d.ev with
  | cmd c =>
    rw [step_eq_carryOut hin, hev] at h
    exact carryOut_cmd_stepCase c h
  | rx r => exact receive_stepCase ((step_rx s d rest r hin hev).symm.trans h)
  | timeout =>
    cases (step_timeout hin hev).symm.trans h
    exact endTransfer_stepCase _ _ .timeout nofun
  | rxIoError =>
    cases (step_rxIoError hin hev).symm.trans h
    exact endTransfer_stepCase _ _ .transportError nofun
  | parse r =>
    cases (step_parse hin hev).symm.trans h
    exact .parsed _
  | pack m =>
    cases (step_pack hin hev).symm.trans h
    exact .packed _
  | reset =>
    cases (step_reset hin hev).symm.trans h
    exact .dropped none

theorem StepCase.cfg_inputs {u t : State} {ev : Event} (h : StepCase u ev t) : t.cfg = u.cfg ∧ t.inputs = u.inputs := by
  cases h <;> exact ⟨rfl, rfl⟩

/-- A step that answers has a delivery to take. -/
theorem exists_stepCase {s t : State} (h : step s = .next t) :
    ∃ d rest, s.inputs = d :: rest ∧ StepCase (s.took d rest) d.ev t := by
  obtain ⟨d, rest, hin, -⟩ := step_next s t h
  exact ⟨d, rest, hin, step_cases hin h⟩

/-- Settles O17: every next state of `StepCase` has the configuration and the deliveries of the state that took one. -/
theorem stepConsumesOneEvent : Obligations.StepConsumesOneEvent := by
  intro s t h
  obtain ⟨d, rest, hin, hcase⟩ := exists_stepCase h
  obtain ⟨hcfg, hrest⟩ := hcase.cfg_inputs
  exact ⟨hcfg, d, hrest ▸ hin⟩

end Sys2Proof.Machine
end

section
/-! PROOFS. The invariant of the transfer record (10_state.md R40): it holds after reset, as the records of R25 to R32 do, and every
step keeps it. -/

namespace Sys2Proof.Machine

/-! ## After reset (R39, R290) -/

theorem Xfer.inv_x0 (cfg : Cfg) : Xfer.x0.Inv cfg where
  idle_is_x0 _ := rfl
  node_is_nodeId h := absurd rfl h
  bufLen_is_length := rfl
  buf_fits := Nat.zero_le _
  download_counts := nofun
  expedited_download := nofun
  segmented_download := nofun
  no_error := by simp [Xfer.x0]
  timed_out := by simp [Xfer.x0]
  aborted_kinds := nofun
  abort_only_kinds := by simp [Xfer.x0]
  error_kinds := nofun
  toggle_starts_at_zero := nofun

theorem Xfer.records_x0 (cfg : Cfg) : Xfer.x0.Records cfg where
  no_code _ := rfl
  local_code := nofun
  overflow_code := nofun
  upload_exp _ := rfl
  upload_remaining := nofun
  upload_no_size _ _ := ⟨rfl, rfl⟩
  upload_buffer_empty := nofun

/-- Settles O14: the reset state's record is `X0`. -/
theorem invariantAtReset : Obligations.InvariantAtReset := by
  have hwf : Config.atReset.WF := by decide
  exact ⟨fun cfg hcfg => ⟨⟨hcfg, Xfer.inv_x0 cfg⟩, Xfer.records_x0 cfg, rfl, rfl⟩, hwf, Xfer.inv_x0 _⟩

/-! ## R40 -/

section
variable {cfg : Cfg} {x : Xfer}

/-- Raising an error in an existing transfer keeps R40: the pairs of state and kind are those of R260. -/
theorem Xfer.Inv.raiseWithCode (h : x.Inv cfg) (hx : x.st ≠ .idle) {st : St} {k : ErrKind} (hk : EndsIn st k)
    (code : BitVec 32) : (raiseWithCode x st k code).Inv cfg where
  idle_is_x0 hst := by cases hk <;> cases hst
  node_is_nodeId _ := h.node_is_nodeId hx
  bufLen_is_length := h.bufLen_is_length
  buf_fits := h.buf_fits
  download_counts := h.download_counts
  expedited_download hd he := ⟨(h.expedited_download hd he).1, by cases hk <;> exact nofun⟩
  segmented_download _ hst := by cases hk <;> cases hst
  no_error := by cases hk <;> simp
  timed_out := by cases hk <;> simp
  aborted_kinds := by cases hk <;> simp
  abort_only_kinds := by cases hk <;> simp
  error_kinds := by cases hk <;> simp
  toggle_starts_at_zero hst := by cases hk <;> cases hst

/-- What R40 (b) to (f) say of a transfer that is not waiting for its initiate response. -/
structure Xfer.Stored (cfg : Cfg) (x : Xfer) : Prop where
  node : 1 ≤ x.node.toNat
  length : x.bufLen = x.buf.length
  fits : x.bufLen ≤ cfg.bufMax
  counts : x.dir = .download →
    x.remaining.toNat ≤ x.bufLen ∧ x.total.toNat = x.bufLen ∧ x.totalValid = true ∧ 1 ≤ x.bufLen ∧
      (x.exp = true ↔ x.bufLen ≤ 4)
  expedited : x.dir = .download → x.exp = true → x.remaining = 0#32 ∧ x.st ≠ .segmenting

/-- A transfer that goes on or is complete, without an error. -/
theorem Xfer.Stored.inv (h : x.Stored cfg) (hst : x.st = .segmenting ∨ x.st = .done) (herr : x.err = .none) : x.Inv cfg where
  idle_is_x0 hidle := by simp [hidle] at hst
  node_is_nodeId _ := h.node
  bufLen_is_length := h.length
  buf_fits := h.fits
  download_counts := h.counts
  expedited_download := h.expedited
  segmented_download _ hinit := by simp [hinit] at hst
  no_error := iff_of_true herr (.inr (.inr hst))
  timed_out := by rcases hst with hst | hst <;> simp [hst, herr]
  aborted_kinds hab := by simp [hab] at hst
  abort_only_kinds hk := by simp [herr] at hk
  error_kinds her := by simp [her] at hst
  toggle_starts_at_zero hinit := by simp [hinit] at hst

theorem Xfer.Inv.err_none_of_waits (h : x.Inv cfg) (hw : x.Waits) : x.err = .none :=
  h.no_error.mpr (by rcases hw with hw | hw <;> simp [hw])

/-- Sending a segment of a segmented download. -/
theorem Xfer.Inv.sendSegment (h : x.Inv cfg) (hw : x.Waits) (hd : x.dir = .download) (he : x.exp = false) {y x1 : Xfer}
    {tx : Option RawFrame} (t : Bool) (hy : y = { x with st := .segmenting, toggle := t })
    (hseg : Machine.sendSegment y = .ok (x1, tx)) : x1.Inv cfg := by
  obtain ⟨-, rfl, -⟩ := sendSegment_ok y x1 tx hseg
  subst hy
  obtain ⟨hrem, htotal, hvalid, hpos, hexp⟩ := h.download_counts hd
  have hlt := x.remaining.isLt
  refine Xfer.Stored.inv ⟨h.node_is_nodeId (st_ne_idle_of_waits hw), h.bufLen_is_length, h.buf_fits,
    fun _ => ⟨?_, htotal, hvalid, hpos, hexp⟩, fun _ hexp => ?_⟩ (.inl rfl) (h.err_none_of_waits hw)
  · simp only [BitVec.toNat_ofNat]
    omega
  · exact absurd hexp (by simp [he])

theorem Xfer.Inv.exp_of_segmenting (h : x.Inv cfg) (hs : x.st = .segmenting) (hd : x.dir = .download) : x.exp = false := by
  by_contra he
  exact (h.expedited_download hd (by simpa using he)).2 hs

/-- An upload's record with a new buffer of the given form. -/
theorem Xfer.Inv.uploaded (h : x.Inv cfg) (hw : x.Waits) {y : Xfer} (hnode : y.node = x.node) (hdir : y.dir = .upload)
    (herr : y.err = x.err) (hst : y.st = .segmenting ∨ y.st = .done) (hbuf : Memory.wf cfg y) : y.Inv cfg := by
  refine Xfer.Stored.inv ⟨?_, hbuf.1, hbuf.2, ?_, ?_⟩ hst (herr.trans (h.err_none_of_waits hw))
  · rw [hnode]
    exact h.node_is_nodeId (st_ne_idle_of_waits hw)
  · simp [hdir]
  · simp [hdir]

/-- Completing a transfer. -/
theorem Xfer.Inv.complete (h : x.Inv cfg) (hw : x.Waits) : { x with st := .done }.Inv cfg :=
  Xfer.Stored.inv ⟨h.node_is_nodeId (st_ne_idle_of_waits hw), h.bufLen_is_length, h.buf_fits, h.download_counts,
    fun hd he => ⟨(h.expedited_download hd he).1, nofun⟩⟩ (.inr rfl) (h.err_none_of_waits hw)

theorem expLen_toList_length (d : Bytes4) (n : BitVec 2) (z : Bool) : (d.toList.take (expLen n z)).length = expLen n z := by
  rw [List.length_take]
  exact Nat.min_eq_left (expLen_le n z)

/-- An accepted upload segment: the buffer grows by the bytes the count goes down by (R207). -/
theorem countDown_memWrite {y : Xfer} {d : Bytes7} {n : BitVec 3} {c : Bool}
    (h : memWrite cfg x (d.toList.take (segLen n c)) = some y) :
    countDown y (segLen n c) = appendSegment x (segLen n c) d ∧ x.bufLen + segLen n c ≤ cfg.bufMax := by
  obtain ⟨hfits, rfl⟩ := memWrite_some cfg x y _ h
  rw [take_segLen_length] at hfits ⊢
  exact ⟨rfl, hfits⟩

theorem Xfer.Inv.appended (h : x.Inv cfg) (hs : x.st = .segmenting) (hd : x.dir = .upload) {n : BitVec 3} {c : Bool}
    (d : Bytes7) (hfits : x.bufLen + segLen n c ≤ cfg.bufMax) {st : St} (hst : st = .segmenting ∨ st = .done) (t : Bool) :
    { appendSegment x (segLen n c) d with st := st, toggle := t }.Inv cfg := by
  have hlen : x.bufLen + segLen n c = (x.buf ++ d.toList.take (segLen n c)).length := by
    rw [List.length_append, take_segLen_length, h.bufLen_is_length]
  exact h.uploaded (.inr hs) rfl hd rfl hst ⟨hlen, hfits⟩

/-- Every case of R197 to R210 keeps R40. -/
theorem ResponseCase.inv {cmd : SdoCommand} {x1 : Xfer} {tx : Option RawFrame} (hcase : ResponseCase cfg x cmd x1 tx)
    (hcfg : cfg.WF) (h : x.Inv cfg) (hw : x.Waits) : x1.Inv cfg := by
  have hx := st_ne_idle_of_waits hw
  cases hcase with
  | remoteAbort index sub code => exact h.raiseWithCode hx .remoteAbort code
  | notInterpreted => exact h.raiseWithCode hx .notInterpreted _
  | overflow => exact h.raiseWithCode hx .bufferOverflow _
  | wrongToggleDown | wrongToggleUp => exact h.raiseWithCode hx .toggleMismatch x.abortCode
  | expeditedDownload | lastAcknowledged => exact h.complete hw
  | segmentedDownload _ hd he _ _ hseg => exact h.sendSegment hw hd he false rfl hseg
  | acknowledged hs hd _ _ _ hseg =>
    exact h.sendSegment hw hd (h.exp_of_segmenting hs hd) (!x.toggle) (by rw [hs]) hseg
  | expeditedUpload _ hd n z d =>
    exact h.uploaded hw rfl hd rfl (.inr rfl)
      ⟨(expLen_toList_length d n z).symm, (expLen_le n z).trans hcfg.1⟩
  | segmentedUpload _ hd n z d => exact h.uploaded hw rfl hd rfl (.inl rfl) ⟨h.bufLen_is_length, h.buf_fits⟩
  | lastAppended hs hd n d y hwrite =>
    obtain ⟨heq, hfits⟩ := countDown_memWrite hwrite
    exact heq ▸ h.appended hs hd d hfits (.inr rfl) x.toggle
  | appended hs hd n d y hwrite =>
    obtain ⟨heq, hfits⟩ := countDown_memWrite hwrite
    exact heq ▸ h.appended hs hd d hfits (.inl hs) (!x.toggle)

/-- R216 keeps R40. -/
theorem Xfer.Inv.finish (h : x.Inv cfg) (hx : x.st ≠ .idle) (tx : Option RawFrame) (ok : Bool) :
    (finish x tx ok).Inv cfg := by
  cases tx with
  | none => exact h
  | some f =>
    cases ok with
    | true => exact h
    | false => exact h.raiseWithCode hx .transportError 0#32

theorem node7_toNat_pos {node : BitVec 8} (h : isNodeId node = true) : 1 ≤ (node7 node).toNat := by
  have hne := mt BitVec.eq_of_toNat_eq (node7_ne_zero h)
  simp only [BitVec.toNat_zero] at hne
  omega

/-- A transfer that was just created (R242, R243). -/
theorem newUpload_inv {node : BitVec 8} (hnode : isNodeId node = true) (index : BitVec 16) (sub : Byte) (cfg : Cfg) :
    (newUpload node index sub).Inv cfg where
  idle_is_x0 := nofun
  node_is_nodeId _ := node7_toNat_pos hnode
  bufLen_is_length := rfl
  buf_fits := Nat.zero_le _
  download_counts := nofun
  expedited_download := nofun
  segmented_download := nofun
  no_error := by simp [newUpload, Xfer.x0]
  timed_out := by simp [newUpload, Xfer.x0]
  aborted_kinds := nofun
  abort_only_kinds := by simp [newUpload, Xfer.x0]
  error_kinds := nofun
  toggle_starts_at_zero _ := rfl

theorem newDownload_inv (hcfg : cfg.WF) {node : BitVec 8} (hnode : isNodeId node = true) {data : List Byte}
    (hlen : ¬ (data.length = 0 ∨ cfg.bufMax < data.length)) (index : BitVec 16) (sub : Byte) :
    (newDownload node index sub data).Inv cfg where
  idle_is_x0 := nofun
  node_is_nodeId _ := node7_toNat_pos hnode
  bufLen_is_length := rfl
  buf_fits := Nat.le_of_not_lt (not_or.mp hlen).2
  download_counts _ := by
    have hnat : (BitVec.ofNat 32 data.length).toNat = data.length := by
      rw [BitVec.toNat_ofNat]
      omega
    refine ⟨?_, hnat, rfl, by simp only [newDownload]; omega, by simp [newDownload]⟩
    simp only [newDownload]
    split
    · exact Nat.zero_le _
    · exact hnat.le
  expedited_download _ hexp := ⟨if_pos (of_decide_eq_true hexp), nofun⟩
  segmented_download _ _ hexp := by
    have hgt : ¬ data.length ≤ 4 := of_decide_eq_false hexp
    simp only [newDownload, if_neg hgt, BitVec.toNat_ofNat]
    omega
  no_error := by simp [newDownload, Xfer.x0]
  timed_out := by simp [newDownload, Xfer.x0]
  aborted_kinds := nofun
  abort_only_kinds := by simp [newDownload, Xfer.x0]
  error_kinds := nofun
  toggle_starts_at_zero _ := rfl

end

/-- An offered frame is judged by `finish` (R216). -/
theorem afterOffer_x (u : State) (x1 : Xfer) (f : RawFrame) (resp : Option HostResponse) :
    (u.afterOffer x1 f resp).x = finish x1 (some f) u.txOk :=
  congrArg State.x (emit_finish_some u x1 f resp).symm

theorem StepCase.inv {u t : State} {ev : Event} (hcase : StepCase u ev t) (h : u.Inv) : t.x.Inv t.cfg := by
  obtain ⟨hcfg, hx⟩ := h
  cases hcase with
  | kept | parsed | packed | sent => exact hx
  | dropped => exact Xfer.inv_x0 _
  | readStarted c _ _ hnode f =>
    rw [afterOffer_x]
    exact (newUpload_inv hnode c.index c.sub u.cfg).finish nofun _ _
  | writeStarted c _ _ hnode hlen f =>
    rw [afterOffer_x]
    exact (newDownload_inv hcfg hnode hlen c.index c.sub).finish nofun _ _
  | ended hw st k hk => exact hx.raiseWithCode (st_ne_idle_of_waits hw) hk u.x.abortCode
  | answered hw r _ cmd _ x1 tx hresp => exact (hresp.inv hcfg hx hw).finish hresp.st_ne_idle tx u.txOk

/-- Settles O15: `StepCase.inv`; no step writes the configuration. -/
theorem stepKeepsInvariant : Obligations.StepKeepsInvariant := by
  intro s t h hstep
  obtain ⟨d, rest, -, hcase⟩ := exists_stepCase hstep
  have hu : (s.took d rest).Inv := ⟨h.cfg_wf, h.xfer⟩
  exact ⟨hcase.cfg_inputs.1 ▸ h.cfg_wf, hcase.inv hu⟩

end Sys2Proof.Machine
end

section
/-! PROOFS. The records of the transfer (10_state.md R22 to R32): every step keeps what they say of an upload and of `abort_code`, and
writes nothing that belongs to a transfer that exists. -/

namespace Sys2Proof.Machine

/-! ## The records of R25 to R32 -/

section
variable {cfg : Cfg} {x : Xfer}

/-- Ending a transfer keeps the records of a code that R32 asks for. -/
theorem Xfer.Records.raiseWithCode (h : x.Records cfg) {st : St} {k : ErrKind} {code : BitVec 32} (hst : st ≠ .initiating)
    (hno : st ≠ .aborted → code = 0#32) (hlocal : st = .aborted → k = .unexpectedResponse → code = cfg.localAbortCode)
    (hover : k = .bufferOverflow → code = cfg.overflowAbortCode) : (raiseWithCode x st k code).Records cfg where
  no_code := hno
  local_code := hlocal
  overflow_code := hover
  upload_exp := h.upload_exp
  upload_remaining := h.upload_remaining
  upload_no_size := h.upload_no_size
  upload_buffer_empty _ hinit := absurd hinit hst

theorem Xfer.Records.finish (h : x.Records cfg) (tx : Option RawFrame) (ok : Bool) : (finish x tx ok).Records cfg := by
  cases tx with
  | none => exact h
  | some f =>
    cases ok with
    | true => exact h
    | false => exact h.raiseWithCode nofun (fun _ => rfl) nofun nofun

theorem Xfer.Records.code_of_waits (h : x.Records cfg) (hw : x.Waits) : x.abortCode = 0#32 :=
  h.no_code (by rcases hw with hw | hw <;> simp [hw])

/-- A download that goes on or is complete, without an error. -/
theorem records_of_download {y : Xfer} (hd : y.dir = .download) (hst : y.st ≠ .aborted) (hcode : y.abortCode = 0#32)
    (herr : y.err = .none) : y.Records cfg where
  no_code _ := hcode
  local_code hab := absurd hab hst
  overflow_code hk := by simp [herr] at hk
  upload_exp hu := by simp [hd] at hu
  upload_remaining hu := by simp [hd] at hu
  upload_no_size hu := by simp [hd] at hu
  upload_buffer_empty hu := by simp [hd] at hu

/-- An upload that goes on or is complete, without an error. -/
theorem records_of_upload {y : Xfer} (hst : y.st = .segmenting ∨ y.st = .done) (hcode : y.abortCode = 0#32)
    (herr : y.err = .none) (hexp : y.exp = false)
    (hsized : y.totalValid = true → y.remaining.toNat = y.total.toNat - y.bufLen)
    (hunsized : y.totalValid = false → y.total = 0#32 ∧ y.remaining = 0#32) : y.Records cfg where
  no_code _ := hcode
  local_code hab := by simp [hab] at hst
  overflow_code hk := by simp [herr] at hk
  upload_exp _ := hexp
  upload_remaining _ := hsized
  upload_no_size _ := hunsized
  upload_buffer_empty _ hinit := by simp [hinit] at hst

/-- The count goes down by the `k` bytes accepted, saturating at 0 (R207, R28). -/
theorem Xfer.Records.appended (h : x.Records cfg) (hinv : x.Inv cfg) (hs : x.st = .segmenting) (hd : x.dir = .upload)
    (k : Nat) (d : Bytes7) {st : St} (hst : st = .segmenting ∨ st = .done) (t : Bool) :
    { appendSegment x k d with st := st, toggle := t }.Records cfg := by
  have hw : x.Waits := .inr hs
  have hlt := x.remaining.isLt
  refine records_of_upload hst (h.code_of_waits hw) (hinv.err_none_of_waits hw) (h.upload_exp hd) (fun hv => ?_)
    (fun hv => ?_)
  · have hcount := h.upload_remaining hd hv
    simp only [appendSegment, BitVec.toNat_ofNat]
    omega
  · obtain ⟨htotal, hzero⟩ := h.upload_no_size hd hv
    exact ⟨htotal, by simp [appendSegment, hzero]⟩

theorem ResponseCase.records {cmd : SdoCommand} {x1 : Xfer} {tx : Option RawFrame} (hcase : ResponseCase cfg x cmd x1 tx)
    (hinv : x.Inv cfg) (h : x.Records cfg) (hw : x.Waits) : x1.Records cfg := by
  have hcode := h.code_of_waits hw
  have herr := hinv.err_none_of_waits hw
  cases hcase with
  | remoteAbort => exact h.raiseWithCode nofun nofun nofun nofun
  | notInterpreted => exact h.raiseWithCode nofun nofun (fun _ _ => rfl) nofun
  | overflow => exact h.raiseWithCode nofun nofun nofun (fun _ => rfl)
  | wrongToggleDown | wrongToggleUp =>
    exact h.raiseWithCode (code := x.abortCode) nofun (fun _ => hcode) nofun nofun
  | expeditedDownload _ hd | lastAcknowledged _ hd => exact records_of_download hd nofun hcode herr
  | segmentedDownload _ hd _ _ _ hseg =>
    obtain ⟨-, rfl, -⟩ := sendSegment_ok _ _ _ hseg
    exact records_of_download hd nofun hcode herr
  | acknowledged hs hd _ _ _ hseg =>
    obtain ⟨-, rfl, -⟩ := sendSegment_ok _ _ _ hseg
    exact records_of_download hd (by simp [hs]) hcode herr
  | expeditedUpload _ hd n z d =>
    have hle := expLen_le n z
    refine records_of_upload (.inr rfl) hcode herr (h.upload_exp hd) (fun _ => ?_) nofun
    simp only [acceptExpedited, BitVec.toNat_ofNat]
    omega
  | segmentedUpload hs hd n z d =>
    obtain ⟨hbuf, -⟩ := h.upload_buffer_empty hd hs
    have hlen : x.bufLen = 0 := by rw [hinv.bufLen_is_length, hbuf]; rfl
    refine records_of_upload (.inl rfl) hcode herr (h.upload_exp hd) (fun _ => ?_) (fun hz => ?_)
    · simp [acceptSegmented, hlen]
    · obtain rfl : z = false := hz
      exact ⟨rfl, rfl⟩
  | lastAppended hs hd n d y hwrite =>
    exact (countDown_memWrite hwrite).1 ▸ h.appended hinv hs hd _ d (.inr rfl) x.toggle
  | appended hs hd n d y hwrite =>
    exact (countDown_memWrite hwrite).1 ▸ h.appended hinv hs hd _ d (.inl hs) (!x.toggle)

theorem newUpload_records (cfg : Cfg) (node : BitVec 8) (index : BitVec 16) (sub : Byte) :
    (newUpload node index sub).Records cfg where
  no_code _ := rfl
  local_code := nofun
  overflow_code := nofun
  upload_exp _ := rfl
  upload_remaining := nofun
  upload_no_size _ _ := ⟨rfl, rfl⟩
  upload_buffer_empty _ _ := ⟨rfl, rfl⟩

end

theorem EndsIn.of_ne_aborted {st : St} {k : ErrKind} (h : EndsIn st k) (hst : st ≠ .aborted) :
    k ≠ .bufferOverflow ∧ st ≠ .initiating := by
  cases h with
  | remoteAbort | notInterpreted | bufferOverflow => exact absurd rfl hst
  | timeout | toggleMismatch | unexpectedResponse | unknownFunctionCode | malformedPayload | transportError =>
    exact ⟨nofun, nofun⟩

theorem StepCase.records {u t : State} {ev : Event} (hcase : StepCase u ev t) (hinv : u.x.Inv u.cfg)
    (h : u.x.Records u.cfg) : t.x.Records t.cfg := by
  cases hcase with
  | kept | parsed | packed | sent => exact h
  | dropped => exact Xfer.records_x0 _
  | readStarted c _ _ hnode f =>
    rw [afterOffer_x]
    exact (newUpload_records u.cfg c.node c.index c.sub).finish _ _
  | writeStarted c _ _ hnode hlen f =>
    rw [afterOffer_x]
    exact (records_of_download (cfg := u.cfg) (y := newDownload c.node c.index c.sub c.data) rfl nofun rfl rfl).finish _ _
  | ended hw st k hk hst =>
    obtain ⟨hover, hinit⟩ := hk.of_ne_aborted hst
    exact h.raiseWithCode (code := u.x.abortCode) hinit (fun _ => h.code_of_waits hw) (fun hab => absurd hab hst)
      (fun hk => absurd hk hover)
  | answered hw r _ cmd _ x1 tx hresp => exact (hresp.records hinv h hw).finish tx u.txOk

/-- Settles O16: `StepCase.records`; an upload's count goes down by the bytes its buffer grows by. -/
theorem stepKeepsRecords : Obligations.StepKeepsRecords := by
  intro s t hinv h hstep
  obtain ⟨d, rest, -, hcase⟩ := exists_stepCase hstep
  exact hcase.records (u := s.took d rest) hinv.xfer h

/-! ## What a step leaves of a transfer that exists (R22 to R25, R27, R29) -/

/-- The fields of `x` that no step writes before the transfer ends. -/
structure Xfer.SameTransfer (x y : Xfer) : Prop where
  node : y.node = x.node
  index : y.index = x.index
  sub : y.sub = x.sub
  dir : y.dir = x.dir
  exp : y.exp = x.exp
  download : x.dir = .download → y.buf = x.buf ∧ y.bufLen = x.bufLen ∧ y.total = x.total ∧ y.totalValid = x.totalValid

section
variable {x y : Xfer}

theorem Xfer.SameTransfer.refl (x : Xfer) : x.SameTransfer x := ⟨rfl, rfl, rfl, rfl, rfl, fun _ => ⟨rfl, rfl, rfl, rfl⟩⟩

/-- An upload writes its buffer and its total. -/
theorem sameTransfer_of_upload (hd : x.dir = .upload) (hnode : y.node = x.node) (hindex : y.index = x.index)
    (hsub : y.sub = x.sub) (hdir : y.dir = x.dir) (hexp : y.exp = x.exp) : x.SameTransfer y :=
  ⟨hnode, hindex, hsub, hdir, hexp, fun h => by simp [hd] at h⟩

theorem Xfer.SameTransfer.finish (h : x.SameTransfer y) (tx : Option RawFrame) (ok : Bool) :
    x.SameTransfer (finish y tx ok) := by
  cases tx with
  | none => exact h
  | some f =>
    cases ok with
    | true => exact h
    | false => exact ⟨h.node, h.index, h.sub, h.dir, h.exp, h.download⟩

theorem ResponseCase.sameTransfer {cfg : Cfg} {cmd : SdoCommand} {x1 : Xfer} {tx : Option RawFrame}
    (hcase : ResponseCase cfg x cmd x1 tx) : x.SameTransfer x1 := by
  cases hcase with
  | remoteAbort | notInterpreted | overflow | wrongToggleDown | wrongToggleUp | expeditedDownload | lastAcknowledged =>
    exact ⟨rfl, rfl, rfl, rfl, rfl, fun _ => ⟨rfl, rfl, rfl, rfl⟩⟩
  | segmentedDownload _ _ _ _ _ hseg | acknowledged _ _ _ _ _ hseg =>
    obtain ⟨-, rfl, -⟩ := sendSegment_ok _ _ _ hseg
    exact ⟨rfl, rfl, rfl, rfl, rfl, fun _ => ⟨rfl, rfl, rfl, rfl⟩⟩
  | expeditedUpload _ hd | segmentedUpload _ hd => exact sameTransfer_of_upload hd rfl rfl rfl rfl rfl
  | lastAppended _ hd _ _ _ hwrite | appended _ hd _ _ _ hwrite =>
    obtain ⟨-, rfl⟩ := memWrite_some _ _ _ _ hwrite
    exact sameTransfer_of_upload hd rfl rfl rfl rfl rfl

end

theorem StepCase.sameTransfer {u t : State} {ev : Event} (hcase : StepCase u ev t) (hx : u.x.st ≠ .idle) (ht : t.x ≠ .x0) :
    u.x.SameTransfer t.x := by
  cases hcase with
  | kept | parsed | packed | sent => exact .refl u.x
  | dropped => exact absurd rfl ht
  | readStarted _ _ hidle | writeStarted _ _ hidle => exact absurd hidle hx
  | ended => exact ⟨rfl, rfl, rfl, rfl, rfl, fun _ => ⟨rfl, rfl, rfl, rfl⟩⟩
  | answered _ _ _ _ _ x1 tx hresp => exact hresp.sameTransfer.finish tx u.txOk

/-- Settles O18: `StepCase.sameTransfer`. -/
theorem transferIdentityKept : Obligations.TransferIdentityKept := by
  intro s t hstep hs ht
  obtain ⟨d, rest, -, hcase⟩ := exists_stepCase hstep
  obtain ⟨hnode, hindex, hsub, hdir, hexp, hdownload⟩ := hcase.sameTransfer (u := s.took d rest) hs ht
  exact ⟨hnode, hindex, hsub, hdir, hexp, hdownload⟩

end Sys2Proof.Machine
end

section
/-! PROOFS. How a transfer completes and how it is aborted (44_sdo_state_machine.md R212, R217, R220): the responses that lead to `DONE`,
those that lead to `ABORTED`, and the steps that offer an abort frame. -/

namespace Sys2Proof

/-- The response a decoded payload stands for. -/
theorem PayloadCase.of_response {nd : BitVec 7} {k : Kind} {p : List Byte} {m : Message} (h : PayloadCase nd k p m)
    {node : BitVec 8} {cmd : SdoCommand} (hm : m = .sdoResponse node cmd) :
    k = .sdoRsp ∧ node = node8 nd ∧ decodeSdoRsp p = .ok cmd := by
  cases h <;> cases hm
  exact ⟨rfl, rfl, ‹_›⟩

theorem decodeFrame_of_response {r : RawFrame} {nd : BitVec 7} {cmd : SdoCommand} {i : Instr}
    (hdec : decodeMessage r = .ok (.sdoResponse (node8 nd) cmd)) {port : Port} (hi : sdoRspInstr port nd cmd = some i) :
    decodeFrame port r = .instr i := by
  obtain ⟨f, k, nd', hparse, hclass, -, hcase⟩ := decodeMessage_cases hdec
  obtain ⟨rfl, hnode, hcmd⟩ := hcase.of_response rfl
  obtain rfl : nd = nd' := by rw [← node7_node8 nd, hnode, node7_node8]
  have hrow := (sdoRspFrameInstr_of_ok hcmd).symm.trans hi
  simp only [decodeFrame, hparse, hclass, frameInstr, hrow]

end Sys2Proof

namespace Sys2Proof.Machine

section
variable {cfg : Cfg} {x x1 : Xfer} {cmd : SdoCommand} {tx : Option RawFrame}

theorem finish_eq_of_st {st : St} {ok : Bool} (h : (finish x1 tx ok).st = st) (hst : st ≠ .error) :
    finish x1 tx ok = x1 := by
  cases tx with
  | none => rfl
  | some f =>
    cases ok with
    | true => rfl
    | false => exact absurd h.symm hst

/-! ## Completion (R217) -/

/-- An expected form is a response row of its own, and no abort. -/
theorem expectedForm_received (h : expectedForm x cmd) (node : BitVec 7) :
    ∃ i, receivedResponse node cmd = some i ∧ sdoRspInstr .rx node cmd = some i := by
  cases cmd with
  | initDownloadRsp | initUploadRsp | downloadSegRsp | uploadSegRsp => exact ⟨_, rfl, rfl⟩
  | abort | initDownloadReq | initUploadReq | downloadSegReq | uploadSegReq => exact h.elim

theorem ResponseCase.completes (hcase : ResponseCase cfg x cmd x1 tx) (hdone : x1.st = .done) :
    tx = none ∧ expectedForm x cmd := by
  cases hcase with
  | remoteAbort | notInterpreted | wrongToggleDown | wrongToggleUp | overflow | segmentedUpload => cases hdone
  | segmentedDownload _ _ _ _ _ hseg => cases (sendSegment_st hseg).symm.trans hdone
  | acknowledged hs _ _ _ _ hseg => cases hs.symm.trans ((sendSegment_st hseg).symm.trans hdone)
  | appended hs _ _ _ _ hwrite => cases hs.symm.trans ((memWrite_st hwrite).symm.trans hdone)
  | expeditedDownload hs hd | expeditedUpload hs hd | lastAcknowledged hs hd | lastAppended hs hd => exact ⟨rfl, hs, hd⟩

theorem StepCase.completes {u t : State} {ev : Event} (hcase : StepCase u ev t) (hu : u.x.st ≠ .done)
    (hdone : t.x.st = .done) : t.tx = none ∧ u.x.Waits ∧
      ∃ cmd i, receivedResponse u.x.node cmd = some i ∧ decodeEvent ev = .instr i ∧ expectedForm u.x cmd := by
  cases hcase with
  | kept | parsed | packed | sent => exact absurd hdone hu
  | dropped => cases hdone
  | readStarted | writeStarted =>
    rw [afterOffer_x] at hdone
    rw [finish_eq_of_st hdone nofun] at hdone
    cases hdone
  | ended _ st k hk => cases hk <;> cases hdone
  | answered hw r hev cmd hdec x1 tx hresp =>
    have hx1 : x1.st = .done := finish_eq_of_st hdone nofun ▸ hdone
    obtain ⟨htx, hform⟩ := hresp.completes hx1
    obtain ⟨i, hi, hrow⟩ := expectedForm_received hform u.x.node
    exact ⟨htx, hw, cmd, i, hi, hev ▸ decodeFrame_of_response hdec hrow, hform⟩

theorem StepCase.terminal {u t : State} {ev : Event} (hcase : StepCase u ev t) (hterm : u.x.terminal = true) :
    t.x = u.x ∨ t.x = .x0 := by
  have hnot : ¬ (u.x.st = .idle ∨ u.x.Waits) := mt (not_terminal_iff u.x).mpr (not_not.mpr hterm)
  cases hcase with
  | kept | parsed | packed | sent => exact .inl rfl
  | dropped => exact .inr rfl
  | readStarted _ _ hidle | writeStarted _ _ hidle => exact absurd (.inl hidle) hnot
  | ended hw | answered hw => exact absurd (.inr hw) hnot

/-- Settles O20: only the expected forms end in `DONE`; in a terminal state the record is kept or dropped. -/
theorem completionAndNoRetry : Obligations.CompletionAndNoRetry := by
  refine ⟨fun s t d rest hin hstep hs hdone => (step_cases hin hstep).completes hs hdone, fun s t hstep hterm => ?_⟩
  obtain ⟨d, rest, -, hcase⟩ := exists_stepCase hstep
  exact hcase.terminal hterm

/-! ## Aborts (R212) -/

/-- The three ways a response leads to `ABORTED` (R197; R199 and R200; R208). -/
inductive AbortCase (cfg : Cfg) (x : Xfer) : SdoCommand → Xfer → Option RawFrame → Prop where
  | remoteAbort (index : BitVec 16) (sub : Byte) (code : BitVec 32) :
    AbortCase cfg x (.abort index sub code) (raiseWithCode x .aborted .remoteAbort code) none
  | notInterpreted (cmd : SdoCommand) (hcmd : ∀ index sub code, cmd ≠ .abort index sub code)
    (hform : ¬ expectedForm x cmd ∨ otherAddress x cmd) :
    AbortCase cfg x cmd (raiseWithCode x .aborted .unexpectedResponse cfg.localAbortCode)
      (some (abortFrame x cfg.localAbortCode))
  | overflow (hs : x.st = .segmenting) (hd : x.dir = .upload) (n : BitVec 3) (c : Bool) (d : Bytes7)
    (hover : cfg.bufMax < x.bufLen + segLen n c) :
    AbortCase cfg x (.uploadSegRsp x.toggle n c d) (raiseWithCode x .aborted .bufferOverflow cfg.overflowAbortCode)
      (some (abortFrame x cfg.overflowAbortCode))

theorem abortOut_eq (x : Xfer) (code : BitVec 32) (k : ErrKind) :
    abortOut x code k = (raiseWithCode x .aborted k code, some (abortFrame x code)) := by
  rw [← req_abort]
  rfl

theorem ResponseCase.aborts (hcase : ResponseCase cfg x cmd x1 tx) (habort : x1.st = .aborted) :
    AbortCase cfg x cmd x1 tx := by
  cases hcase with
  | remoteAbort index sub code => exact .remoteAbort index sub code
  | notInterpreted cmd hcmd hform =>
    rw [uninterpretable, abortOut_eq]
    exact .notInterpreted cmd hcmd hform
  | overflow hs hd n c d hwrite =>
    have hover := memWrite_none cfg x _ hwrite
    rw [take_segLen_length] at hover
    rw [abortOut_eq]
    exact .overflow hs hd n c d hover
  | wrongToggleDown | wrongToggleUp | segmentedUpload | expeditedDownload | expeditedUpload | lastAcknowledged
  | lastAppended => cases habort
  | segmentedDownload _ _ _ _ _ hseg => cases (sendSegment_st hseg).symm.trans habort
  | acknowledged hs _ _ _ _ hseg => cases hs.symm.trans ((sendSegment_st hseg).symm.trans habort)
  | appended hs _ _ _ _ hwrite => cases hs.symm.trans ((memWrite_st hwrite).symm.trans habort)

theorem StepCase.aborts {u t : State} {ev : Event} (hcase : StepCase u ev t) (hu : u.x.st ≠ .aborted)
    (habort : t.x.st = .aborted) : u.x.Waits ∧ ∃ r cmd, ev = .rx r ∧
      decodeMessage r = .ok (.sdoResponse (node8 u.x.node) cmd) ∧ AbortCase u.cfg u.x cmd t.x t.tx := by
  cases hcase with
  | kept | parsed | packed | sent => exact absurd habort hu
  | dropped => cases habort
  | readStarted | writeStarted =>
    rw [afterOffer_x] at habort
    rw [finish_eq_of_st habort nofun] at habort
    cases habort
  | ended _ st k _ hst => exact absurd habort hst
  | answered hw r hev cmd hdec x1 tx hresp =>
    have hx1 : finish x1 tx u.txOk = x1 := finish_eq_of_st habort nofun
    refine ⟨hw, r, cmd, hev, hdec, ?_⟩
    rw [emit_x, hx1] at habort
    rw [emit_x, hx1]
    exact hresp.aborts habort

/-! ## The frames a received frame is answered with -/

/-- A request is told from an abort frame by its command specifier (R74). -/
theorem req_ne_abortFrame (hcs : sdoCs cmd ≠ 4#3) (y : Xfer) (code : BitVec 32) : req y cmd ≠ abortFrame x code := by
  intro heq
  have hspec : sdoSpecifier (req y cmd).data.b0 = sdoCs cmd := sdoSpecifier_sdoBytes cmd
  have habort : sdoSpecifier (abortFrame x code).data.b0 = 4#3 := by
    have hb0 : sdoSpecifier 0x80#8 = 4#3 := by decide
    exact hb0
  exact hcs (hspec.symm.trans (heq ▸ habort))

theorem ResponseCase.offers_abortFrame (hcase : ResponseCase cfg x cmd x1 tx) {code : BitVec 32}
    (htx : tx = some (abortFrame x code)) :
    x1.st = .aborted ∧ (x1.err = .unexpectedResponse ∨ x1.err = .bufferOverflow) := by
  cases hcase with
  | notInterpreted => exact ⟨rfl, .inl rfl⟩
  | overflow => exact ⟨rfl, .inr rfl⟩
  | remoteAbort | wrongToggleDown | wrongToggleUp | expeditedDownload | expeditedUpload | lastAcknowledged
  | lastAppended => cases htx
  | segmentedUpload | appended => exact absurd (Option.some.inj htx) (req_ne_abortFrame (by simp [sdoCs]) _ _)
  | segmentedDownload _ _ _ _ _ hseg | acknowledged _ _ _ _ _ hseg =>
    obtain ⟨-, -, bytes, -, hsent⟩ := sendSegment_ok _ _ _ hseg
    exact absurd (Option.some.inj (hsent.symm.trans htx)) (req_ne_abortFrame (by simp [downloadSegment, sdoCs]) _ _)

end

/-- Where no command was given, a frame is offered as the answer to a response only. -/
theorem StepCase.offers {u t : State} {ev : Event} {f : RawFrame} (hcase : StepCase u ev t) (hev : ∀ c, ev ≠ .cmd c)
    (htx : t.tx = some f) : ∃ r cmd x1, ev = .rx r ∧ ResponseCase u.cfg u.x cmd x1 (some f) ∧
      t.x = finish x1 (some f) u.txOk := by
  cases hcase with
  | kept | parsed | packed | dropped | ended => cases htx
  | sent c hc | readStarted c hc | writeStarted c hc => exact absurd hc (hev c)
  | answered _ r hr cmd _ x1 tx hresp =>
    obtain rfl : tx = some f := htx
    exact ⟨r, cmd, x1, hr, hresp, rfl⟩

/-- Settles O21: the ways of `AbortCase`; an answer with the specifier of an abort is one of them, unless the bus refused it. -/
theorem abortsCollected : Obligations.AbortsCollected := by
  intro s t d rest hin hstep
  have hcase := step_cases hin hstep
  refine ⟨fun hs habort => ?_, fun r f code hev htx hf => ?_, fun hev => ?_⟩
  · obtain ⟨hw, r, cmd, hev, hdec, hab⟩ := hcase.aborts hs habort
    refine ⟨hw, r, cmd, hev, hdec, ?_⟩
    generalize t.x = y at hab
    generalize t.tx = tx at hab
    cases hab with
    | remoteAbort index sub code => exact .inl ⟨index, sub, rfl, rfl, rfl⟩
    | notInterpreted cmd hcmd hform => exact .inr (.inl ⟨hcmd, hform, rfl, rfl, rfl⟩)
    | overflow hseg hd n c b hover => exact .inr (.inr ⟨⟨n, c, b, rfl, hover⟩, hd, hseg, rfl, rfl, rfl⟩)
  · obtain ⟨-, cmd, x1, -, hresp, hx⟩ := hcase.offers (by simp [hev]) htx
    have hab := hresp.offers_abortFrame (congrArg some hf)
    rw [hx]
    cases hok : d.txOk with
    | true => exact .inl (by simpa [finish, hok] using hab)
    | false => exact .inr (by simp [finish, hok])
  · cases htx : t.tx with
    | none => rfl
    | some f =>
      obtain ⟨r, -, -, hr, -⟩ := hcase.offers (by rcases hev with hev | hev <;> simp [hev]) htx
      rcases hev with hev | hev <;> cases hev.symm.trans hr

end Sys2Proof.Machine
end

section
/-! PROOFS. The ten SDO forms on the codec ports (43_sdo_command_codec.md R161 to R170): each form's frame byte by byte on `PACK`, its
typed message on `PARSE`. -/

namespace Sys2Proof.Machine

/-! ## The bytes of the forms (R173) -/

theorem encodeSdo_abort (index : BitVec 16) (sub : Byte) (code : BitVec 32) : encodeSdo (.abort index sub code) =
    (⟨0x80#8, index.extractLsb' 0 8, index.extractLsb' 8 8, sub, code.extractLsb' 0 8, code.extractLsb' 8 8,
      code.extractLsb' 16 8, code.extractLsb' 24 8⟩ : Bytes8).toList := by
  have hb0 : plainByte 4#3 = 0x80#8 := by decide
  simp only [encodeSdo, sdoCs, hb0]
  rfl

theorem encodeSdo_initDownloadRsp (index : BitVec 16) (sub : Byte) : encodeSdo (.initDownloadRsp index sub) =
    (⟨0x60#8, index.extractLsb' 0 8, index.extractLsb' 8 8, sub, 0, 0, 0, 0⟩ : Bytes8).toList := by
  have hb0 : plainByte 3#3 = 0x60#8 := by decide
  simp only [encodeSdo, sdoCs, hb0]
  rfl

theorem sdoResponse_encode {cmd : SdoCommand} {b : Bytes8} (h : encodeSdo cmd = b.toList) (node : BitVec 7) :
    (Message.sdoResponse (node8 node) cmd).encode = responseFrame node b := by
  simp only [Message.encode, Message.payload, Message.cobId, Message.kind, Message.nodeOf, node7_node8, h]
  rfl

theorem sdoRequest_wf {node : BitVec 7} (hnode : node ≠ 0#7) {cmd : SdoCommand} (hcmd : cmd.isRequest = true) :
    (Message.sdoRequest (node8 node) cmd).wf = true :=
  Bool.and_eq_true_iff.mpr ⟨isNodeId_node8_of_ne_zero hnode, hcmd⟩

theorem sdoResponse_wf {node : BitVec 7} (hnode : node ≠ 0#7) {cmd : SdoCommand} (hcmd : cmd.isResponse = true) :
    (Message.sdoResponse (node8 node) cmd).wf = true :=
  Bool.and_eq_true_iff.mpr ⟨isNodeId_node8_of_ne_zero hnode, hcmd⟩

/-! ## The forms on `PACK` -/

section
variable {node : BitVec 7} {i : Instr} {cmd : SdoCommand} {b : Bytes8} (hnode : node ≠ 0#7)
include hnode

theorem exec_request_pack (hcmd : cmd.isRequest = true)
    (hv : i.view = .frame (.ofMessage .pack (.sdoRequest (node8 node) cmd))) (hb : encodeSdo cmd = b.toList) (s : State) :
    exec i s = .next (s.packed (.frame (requestFrame node b))) := by
  rw [← sdoRequest_encode hb node]
  exact exec_pack_ok hv rfl rfl (sdoRequest_wf hnode hcmd) s

theorem exec_response_pack (hcmd : cmd.isResponse = true)
    (hv : i.view = .frame (.ofMessage .pack (.sdoResponse (node8 node) cmd))) (hb : encodeSdo cmd = b.toList) (s : State) :
    exec i s = .next (s.packed (.frame (responseFrame node b))) := by
  rw [← sdoResponse_encode hb node]
  exact exec_pack_ok hv rfl rfl (sdoResponse_wf hnode hcmd) s

end

/-- Settles O48: each form's message is well-formed, and its bytes are those of its `encode` line. -/
theorem sdoRequestFramesPacked : Obligations.SdoRequestFramesPacked := by
  intro s node index sub hnode
  exact ⟨fun n e sInd d => exec_request_pack hnode rfl rfl rfl s,
    exec_request_pack hnode rfl rfl (encodeSdo_initUploadReq index sub) s,
    fun t n c d => exec_request_pack hnode rfl rfl rfl s,
    fun t => exec_request_pack hnode rfl rfl rfl s,
    fun code => exec_request_pack hnode rfl rfl (encodeSdo_abort index sub code) s⟩

/-- Settles O49: each form's message is well-formed, and its bytes are those of its `encode` line. -/
theorem sdoResponseFramesPacked : Obligations.SdoResponseFramesPacked := by
  intro s node index sub hnode
  exact ⟨exec_response_pack hnode rfl rfl (encodeSdo_initDownloadRsp index sub) s,
    fun n e sInd d => exec_response_pack hnode rfl rfl rfl s,
    fun t => exec_response_pack hnode rfl rfl rfl s,
    fun t n c d => exec_response_pack hnode rfl rfl rfl s,
    fun code => exec_response_pack hnode rfl rfl (encodeSdo_abort index sub code) s⟩

/-! ## The forms on `PARSE` -/

/-- A form that fixes its message gives that message, whatever the message. -/
theorem exec_ofMessage_parse {i : Instr} {m : Message} (hv : i.view = .frame (.ofMessage .parse m)) (s : State) :
    exec i s = .next (s.parsed (.ok m)) :=
  exec_parse_ok hv rfl rfl s

/-- Settles O50: all ten forms fix their message. -/
theorem sdoFormsParsed : Obligations.SdoFormsParsed := by
  intro s node index sub t c e sInd n2 n3 d4 d7 code
  have hparse {i : Instr} {m : Message} (hv : i.view = .frame (.ofMessage .parse m)) := exec_ofMessage_parse hv s
  exact ⟨hparse rfl, hparse rfl, hparse rfl, hparse rfl, hparse rfl, hparse rfl, hparse rfl, hparse rfl, hparse rfl,
    hparse rfl⟩

end Sys2Proof.Machine
end

section
/-! PROOFS. What the host reads (10_state.md R20 to R33, 93_implementation_defined.md U26): the result of a transfer, the status
registers and the codes. -/

namespace Sys2Proof.Machine

/-! ## The result of a transfer (R30) -/

section
variable {x : Xfer}

theorem hostResult_upload (hlen : x.bufLen = x.buf.length) (hs : x.st = .done) (hd : x.dir = .upload) :
    hostResult x = .bytes x.buf := by
  simp only [hostResult, hs, hd, hlen, List.take_length]

theorem hostResult_download (hs : x.st = .done) (hd : x.dir = .download) : hostResult x = .unit := by
  simp only [hostResult, hs, hd]

theorem hostResult_failure (h : x.st = .aborted ∨ x.st = .timedOut ∨ x.st = .error) :
    hostResult x = .failure x.err x.abortCode := by
  rcases h with hs | hs | hs <;> simp only [hostResult, hs]

theorem hostResult_none (h : x.st = .idle ∨ x.st = .initiating ∨ x.st = .segmenting) : hostResult x = .noResult := by
  rcases h with hs | hs | hs <;> simp only [hostResult, hs]

end

/-! ## Registers and codes (R21, R31, R33, U26) -/

theorem statusReg_above (x : Xfer) {k : Nat} (h : 13 < k) : statusReg x k = none := by
  unfold statusReg
  split
  case h_14 => rfl
  all_goals omega

theorem stOfCode_code (v : St) : St.ofCode v.code = some v := by cases v <;> rfl

theorem stOfCode_above {n : Nat} (h : 7 ≤ n) : St.ofCode n = none := by
  unfold St.ofCode
  split
  case h_8 => rfl
  all_goals omega

theorem errOfCode_code (v : ErrKind) : ErrKind.ofCode v.code = some v := by cases v <;> rfl

theorem errOfCode_above {n : Nat} (h : 9 ≤ n) : ErrKind.ofCode n = none := by
  unfold ErrKind.ofCode
  split
  case h_10 => rfl
  all_goals omega

/-- Settles O58: the result state by state; the tables by their entries, and nothing above them. -/
theorem resultVisibility : Obligations.ResultVisibility :=
  ⟨fun _ hlen => ⟨hostResult_upload hlen, hostResult_download, hostResult_failure, hostResult_none⟩,
    fun x => ⟨rfl, rfl, fun _ => statusReg_above x⟩, ⟨rfl, stOfCode_code, fun _ => stOfCode_above⟩, ⟨rfl, rfl⟩,
    ⟨rfl, errOfCode_code, fun _ => errOfCode_above⟩⟩

end Sys2Proof.Machine
end

section
/-! PROOFS. A whole segmented write (44_sdo_state_machine.md R201, R205, R206, R211, R219): the record between its steps, and the run
delivery by delivery. -/

namespace Sys2Proof.Machine

/-! ## Runs, delivery by delivery -/

/-- In a state with the record `x`, taking the delivery `d` leaves the record `y` and offers `tx`. -/
def Leads (cfg : Cfg) (x : Xfer) (d : Delivery) (y : Xfer) (tx : Option RawFrame) : Prop :=
  ∀ (t : State) (rest : List Delivery), t.cfg = cfg → t.x = x → t.inputs = d :: rest →
    ∃ u, step t = .next u ∧ u.cfg = cfg ∧ u.x = y ∧ u.tx = tx ∧ u.inputs = rest

/-- After `n` steps from `s` the record is `x`, the frame just offered `tx`, and `inputs` is still to come. -/
def Reaches (s : State) (n : Nat) (x : Xfer) (tx : Option RawFrame) (inputs : List Delivery) : Prop :=
  ∃ t, core.run n s = .next t ∧ t.cfg = s.cfg ∧ t.x = x ∧ t.tx = tx ∧ t.inputs = inputs

section
variable {s : State} {n : Nat} {x y : Xfer} {tx tx' : Option RawFrame} {d : Delivery} {rest : List Delivery}

theorem Reaches.snoc (h : Reaches s n x tx (d :: rest)) (hd : Leads s.cfg x d y tx') : Reaches s (n + 1) y tx' rest := by
  obtain ⟨t, hrun, hcfg, hx, -, hin⟩ := h
  obtain ⟨u, hstep, hu⟩ := hd t rest hcfg hx hin
  exact ⟨u, run_snoc n s t u hrun hstep, hu⟩

theorem reaches_zero (hx : s.x = x) (inputs : List Delivery) (hin : s.inputs = inputs) : Reaches s 0 x s.tx inputs :=
  ⟨s, run_zero s, rfl, hx, rfl, hin⟩

theorem drop_map_range {α : Type} (f : Nat → α) {m j : Nat} (h : j < m) :
    ((List.range m).map f).drop j = f j :: ((List.range m).map f).drop (j + 1) := by
  rw [List.drop_eq_getElem_cons (by simpa using h), List.getElem_map, List.getElem_range]

/-- Deliveries answered one by one: each but the last leads from the record `r j` to the next. -/
theorem Reaches.exchange {f : Nat → Delivery} {r : Nat → Xfer} {g : Nat → RawFrame} {m : Nat}
    (h : Reaches s n (r 0) (some (g 0)) ((List.range m).map f ++ rest))
    (hstep : ∀ j, j + 1 < m → Leads s.cfg (r j) (f j) (r (j + 1)) (some (g (j + 1)))) :
    ∀ j, j < m → Reaches s (n + j) (r j) (some (g j)) (((List.range m).map f).drop j ++ rest) := by
  intro j
  induction j with
  | zero => exact fun _ => h
  | succ j ih =>
    intro hj
    have hprev := ih (by omega)
    rw [drop_map_range f (by omega)] at hprev
    exact hprev.snoc (hstep j hj)

/-- The last of them ends the exchange. -/
theorem Reaches.exchange_last {f : Nat → Delivery} {r : Nat → Xfer} {g : Nat → RawFrame} {m : Nat}
    (h : ∀ j, j < m + 1 → Reaches s (n + j) (r j) (some (g j)) (((List.range (m + 1)).map f).drop j ++ rest))
    (hlast : Leads s.cfg (r m) (f m) y tx) : Reaches s (n + (m + 1)) y tx rest := by
  have hprev := h m (by omega)
  rw [drop_map_range f (by omega), List.drop_of_length_le (by simp)] at hprev
  exact hprev.snoc hlast

end

theorem afterOffer_taken {u : State} (h : u.txOk = true) (x1 : Xfer) (f : RawFrame) (resp : Option HostResponse) :
    u.afterOffer x1 f resp = u.after x1 (some f) resp :=
  congrArg (u.after · (some f) resp) (if_pos h)

/-- A response the server sends is decoded to its row (R172). -/
theorem decodeEvent_responseFrame {node : BitVec 7} (hnode : node ≠ 0#7) {cmd : SdoCommand} {b : Bytes8} {i : Instr}
    (hcmd : cmd.isResponse = true) (hb : encodeSdo cmd = b.toList) (hi : sdoRspInstr .rx node cmd = some i) :
    decodeEvent (delivered (responseFrame node b)).ev = .instr i := by
  have hdec := decodeMessage_encode (sdoResponse_wf hnode hcmd)
  rw [sdoResponse_encode hb node] at hdec
  exact decodeFrame_of_response hdec hi

/-- Such a delivery leads where its row leads in every state with the record `x` and a bus that takes the frame. -/
theorem leads_of_exec {cfg : Cfg} {x y : Xfer} {d : Delivery} {tx : Option RawFrame} {i : Instr}
    (hdec : decodeEvent d.ev = .instr i)
    (hexec : ∀ u : State, u.cfg = cfg → u.x = x → u.txOk = d.txOk → ∃ resp, exec i u = .next (u.after y tx resp)) :
    Leads cfg x d y tx := by
  intro t rest hcfg hx hin
  obtain ⟨resp, hexec⟩ := hexec (t.took d rest) hcfg hx rfl
  exact ⟨_, (step_instr hin hdec).trans hexec, hcfg, rfl, rfl, rfl⟩

/-! ## Counting segments (R219) -/

theorem lt_segmentCount_iff {data : List Byte} (hpos : 1 ≤ data.length) (j : Nat) :
    j < segmentCount data ↔ 7 * j < data.length := by
  unfold segmentCount
  omega

theorem succ_eq_segmentCount_iff {data : List Byte} {j : Nat} (hj : j < segmentCount data) :
    j + 1 = segmentCount data ↔ data.length ≤ 7 * (j + 1) := by
  unfold segmentCount at hj ⊢
  omega

/-- The toggle alternates (R211). -/
theorem toggle_succ (j : Nat) : decide ((j + 1) % 2 = 1) = !decide (j % 2 = 1) := by
  rw [← decide_not, decide_eq_decide]
  omega

/-! ## A segmented download between its steps -/

section
variable (node : BitVec 7) (index : BitVec 16) (sub : Byte) (data : List Byte)

/-- The record of a segmented download that is about to send segment `j` (R205, R206). -/
def downloadAt (j : Nat) : Xfer :=
  { Xfer.x0 with
    st := .segmenting
    dir := .download
    node := node
    index := index
    sub := sub
    toggle := decide (j % 2 = 1)
    total := BitVec.ofNat 32 data.length
    totalValid := true
    remaining := BitVec.ofNat 32 (data.length - 7 * j)
    buf := data
    bufLen := data.length }

/-- The acknowledgement of segment `j`. -/
def segmentAck (j : Nat) : Delivery := delivered (responseFrame node (toggleBytes 1#3 j))

variable {data}

/-- The accepted write, with its initiate frame acknowledged, is about to send segment 0 (R201). -/
theorem newDownload_eq_downloadAt (hgt : ¬ data.length ≤ 4) :
    { newDownload (node8 node) index sub data with st := .segmenting, toggle := false } = downloadAt node index sub data 0 := by
  have hnode : (node8 node).setWidth 7 = node := node7_node8 node
  rw [newDownload_of_gt (node8 node) index sub hgt, hnode]
  rfl

variable (hlen : data.length ≤ 2 ^ 32 - 1)
include hlen

theorem downloadAt_remaining_toNat (j : Nat) : (downloadAt node index sub data j).remaining.toNat = data.length - 7 * j := by
  simp only [downloadAt, BitVec.toNat_ofNat]
  omega

theorem afterSegment_downloadAt_remaining_toNat (j : Nat) :
    (afterSegment (downloadAt node index sub data j)).remaining.toNat = data.length - 7 * (j + 1) := by
  rw [afterSegment_remaining_toNat, downloadAt_remaining_toNat node index sub hlen]
  omega

/-- Turning the toggle is all that lies between sending a segment and being about to send the next (R206). -/
theorem downloadAt_succ (j : Nat) : downloadAt node index sub data (j + 1) =
    { afterSegment (downloadAt node index sub data j) with
      toggle := !(afterSegment (downloadAt node index sub data j)).toggle } := by
  have hrem : BitVec.ofNat 32 (data.length - 7 * (j + 1)) = (afterSegment (downloadAt node index sub data j)).remaining := by
    rw [← afterSegment_downloadAt_remaining_toNat node index sub hlen j, BitVec.ofNat_toNat, BitVec.setWidth_eq]
  simp only [downloadAt, hrem, toggle_succ]
  rfl

theorem segmentFrame_downloadAt {j : Nat} (hj : j < segmentCount data) (hpos : 1 ≤ data.length) :
    segmentFrame (downloadAt node index sub data j) = requestFrame node (segmentBytes data j) := by
  have hrem := downloadAt_remaining_toNat node index sub hlen j
  have hlt := (lt_segmentCount_iff hpos j).mp hj
  have hstart : data.length - (data.length - 7 * j) = 7 * j := by omega
  have hlast : decide (data.length - 7 * j = min 7 (data.length - 7 * j)) = decide (j + 1 = segmentCount data) := by
    rw [decide_eq_decide, succ_eq_segmentCount_iff hj]
    omega
  have hbuf : (downloadAt node index sub data j).buf = data := rfl
  have hbufLen : (downloadAt node index sub data j).bufLen = data.length := rfl
  simp only [segmentFrame, segmentBytes, hrem, hbuf, hbufLen, hstart, hlast]
  rfl

end

/-! ## Its steps -/

section
variable {cfg : Cfg} {node : BitVec 7} (index : BitVec 16) (sub : Byte) {data : List Byte} (hnode : node ≠ 0#7)
include hnode

theorem leads_write (hge : 5 ≤ data.length) (hfits : data.length ≤ cfg.bufMax) : Leads cfg .x0
    { ev := .cmd { cmdWord 3#3 with node := node.setWidth 8, index := index, sub := sub, data := data }, txOk := true }
    (newDownload (node8 node) index sub data)
    (some (Message.sdoRequest (node8 node) (initDownload (newDownload (node8 node) index sub data))).encode) := by
  refine leads_of_exec (i := .sdoWrite (node8 node) index sub data) rfl fun u hcfg hx hok => ⟨some .accepted, ?_⟩
  have hacc := execSdoWrite_accepted (u := u) (index := index) (sub := sub) (data := data) (by rw [hx]; rfl)
    (isNodeId_node8_of_ne_zero hnode) (by rw [hcfg]; omega)
  rwa [afterOffer_taken hok] at hacc

variable (hlen : data.length ≤ 2 ^ 32 - 1)
include hlen

theorem leads_initiateAck (hge : 5 ≤ data.length) : Leads cfg (newDownload (node8 node) index sub data)
    (delivered (responseFrame node ⟨0x60#8, index.extractLsb' 0 8, index.extractLsb' 8 8, sub, 0#8, 0#8, 0#8, 0#8⟩))
    (afterSegment (downloadAt node index sub data 0)) (some (requestFrame node (segmentBytes data 0))) := by
  refine leads_of_exec (i := .sdoDlInitRsp .rx node index sub)
    (decodeEvent_responseFrame hnode (cmd := .initDownloadRsp index sub) rfl (encodeSdo_initDownloadRsp index sub) rfl)
    fun u hcfg hx hok => ⟨none, ?_⟩
  have hgt : ¬ data.length ≤ 4 := by omega
  have hfirst : 0 < segmentCount data := (lt_segmentCount_iff (by omega) 0).mpr (by omega)
  have hnode7 : (newDownload (node8 node) index sub data).node = node := node7_node8 node
  have hrem : (newDownload (node8 node) index sub data).remaining = (downloadAt node index sub data 0).remaining := if_neg hgt
  have hack := (initiateDownloadAcknowledged u (by rw [hx]; rfl) (by rw [hx]; rfl)).2
  rw [hx, newDownload_eq_downloadAt node index sub hgt, segmentFrame_downloadAt node index sub hlen hfirst (by omega),
    afterOffer_taken hok, hnode7, hrem, downloadAt_remaining_toNat node index sub hlen] at hack
  exact hack (decide_eq_false hgt) rfl (Nat.sub_le ..)

theorem leads_segmentAck (hge : 5 ≤ data.length) {j : Nat} (hj : j + 1 < segmentCount data) :
    Leads cfg (afterSegment (downloadAt node index sub data j)) (segmentAck node j)
      (afterSegment (downloadAt node index sub data (j + 1))) (some (requestFrame node (segmentBytes data (j + 1)))) := by
  refine leads_of_exec (i := .sdoDlSegRsp .rx node (decide (j % 2 = 1)))
    (decodeEvent_responseFrame hnode (cmd := .downloadSegRsp (decide (j % 2 = 1))) rfl rfl rfl)
    fun u hcfg hx hok => ⟨none, ?_⟩
  have hrem := afterSegment_downloadAt_remaining_toNat node index sub hlen j
  have hmore := (lt_segmentCount_iff (by omega) _).mp hj
  have hack := (downloadSegmentAcknowledged u (by rw [hx]; rfl) (by rw [hx]; rfl)).2
  rw [hx, ← downloadAt_succ node index sub hlen, segmentFrame_downloadAt node index sub hlen hj (by omega),
    afterOffer_taken hok] at hack
  refine hack (fun hzero => ?_) rfl (by rw [hrem]; exact Nat.sub_le ..)
  rw [hzero] at hrem
  simp only [BitVec.toNat_zero] at hrem
  omega

theorem leads_lastAck {j : Nat} (hj : j + 1 = segmentCount data) :
    Leads cfg (afterSegment (downloadAt node index sub data j)) (segmentAck node j)
      { afterSegment (downloadAt node index sub data j) with st := .done } none := by
  refine leads_of_exec (i := .sdoDlSegRsp .rx node (decide (j % 2 = 1)))
    (decodeEvent_responseFrame hnode (cmd := .downloadSegRsp (decide (j % 2 = 1))) rfl rfl rfl)
    fun u hcfg hx hok => ⟨none, ?_⟩
  have hrem := afterSegment_downloadAt_remaining_toNat node index sub hlen j
  have hend := (succ_eq_segmentCount_iff (by omega)).mp hj
  have hack := (downloadSegmentAcknowledged u (by rw [hx]; rfl) (by rw [hx]; rfl)).1
  rw [hx] at hack
  refine hack (BitVec.eq_of_toNat_eq ?_)
  rw [hrem, BitVec.toNat_zero]
  omega

end

/-- Settles O59: the exchange of segments and acknowledgements, from the record `downloadAt 0` on. -/
theorem segmentedWriteDelivers : Obligations.SegmentedWriteDelivers := by
  intro s node index sub data rest hcfg hx hnode hge hfits hin
  have hlen : data.length ≤ 2 ^ 32 - 1 := hfits.trans hcfg.2
  have hstart : Reaches s 2 _ _ _ :=
    ((reaches_zero hx _ hin).snoc (leads_write index sub hnode hge hfits)).snoc (leads_initiateAck index sub hnode hlen hge)
  have hall := hstart.exchange (r := fun j => afterSegment (downloadAt node index sub data j))
    (g := fun j => requestFrame node (segmentBytes data j)) fun j hj => leads_segmentAck index sub hnode hlen hge hj
  refine ⟨fun j hj => ?_, ?_⟩
  · obtain ⟨t, hrun, -, hxt, htx, -⟩ := hall j hj
    exact ⟨t, hrun, congrArg Xfer.st hxt, htx⟩
  · obtain ⟨m, hm⟩ : ∃ m, segmentCount data = m + 1 := ⟨segmentCount data - 1, by unfold segmentCount; omega⟩
    rw [hm] at hall ⊢
    obtain ⟨t, hrun, -, hxt, htx, hrest⟩ := Reaches.exchange_last hall (leads_lastAck index sub hnode hlen hm.symm)
    exact ⟨t, hrun, by rw [hxt], by rw [hxt]; rfl, htx, by rw [hxt]; rfl, hrest⟩

end Sys2Proof.Machine
end

section
/-! PROOFS. A whole read that is answered in segments (44_sdo_state_machine.md R203, R207 to R209, R211, R221): the record between its
steps, the bytes a segment carries, and the run delivery by delivery. -/

namespace Sys2Proof.Machine

/-! ## The bytes of a segment (R54) -/

/-- The data bytes of segment `j`, one by one: those of the datum, then zeros. -/
def segmentData (data : List Byte) (j : Nat) : Bytes7 :=
  ⟨(segmentBytes data j).b1, (segmentBytes data j).b2, (segmentBytes data j).b3, (segmentBytes data j).b4,
    (segmentBytes data j).b5, (segmentBytes data j).b6, (segmentBytes data j).b7⟩

/-- The number of bytes segment `j` carries. -/
def segmentSize (data : List Byte) (j : Nat) : Nat := min 7 (data.length - 7 * j)

/-- The response that carries segment `j` (R169). -/
def segmentRsp (data : List Byte) (j : Nat) : SdoCommand :=
  .uploadSegRsp (decide (j % 2 = 1)) (BitVec.ofNat 3 (7 - segmentSize data j)) (decide (j + 1 = segmentCount data))
    (segmentData data j)

theorem encodeSdo_segmentRsp (data : List Byte) (j : Nat) : encodeSdo (segmentRsp data j) = (segmentBytes data j).toList := rfl

theorem take_segmentData (data : List Byte) (j : Nat) :
    (segmentData data j).toList.take (segmentSize data j) = (data.drop (7 * j)).take (segmentSize data j) := by
  have hle : segmentSize data j ≤ 7 := Nat.min_le_left ..
  have hbytes : (segmentData data j).toList =
      (List.range 7).map fun i => if i < segmentSize data j then data.getD (7 * j + i) 0#8 else 0#8 := rfl
  rw [hbytes]
  apply List.ext_getElem
  · simp [segmentSize]
  · intro i hi hi'
    have hik : i < segmentSize data j := Nat.lt_of_lt_of_le hi (List.length_take_le ..)
    have hid : 7 * j + i < data.length := by
      simp only [List.length_take, List.length_drop] at hi'
      omega
    simp [hik, hid]

/-- Appending what segment `j` carries (R207). -/
theorem take_append_segmentData {data : List Byte} {j : Nat} :
    data.take (7 * j) ++ (segmentData data j).toList.take (segmentSize data j) = data.take (7 * j + segmentSize data j) := by
  rw [take_segmentData, List.take_add]

/-- The count `n` of unused bytes gives the size of the last segment; the others carry seven bytes (R177). -/
theorem segLen_segment {data : List Byte} {j : Nat} (hj : j < segmentCount data) :
    segLen (BitVec.ofNat 3 (7 - segmentSize data j)) (decide (j + 1 = segmentCount data)) = segmentSize data j := by
  have hsize : segmentSize data j ≤ 7 := Nat.min_le_left ..
  by_cases hlast : j + 1 = segmentCount data
  · simp only [segLen, hlast, decide_true, if_true, BitVec.toNat_ofNat]
    omega
  · have hmore := mt (succ_eq_segmentCount_iff hj).mpr hlast
    simp only [segLen, hlast, decide_false, Bool.false_eq_true, if_false, segmentSize]
    omega

/-! ## A segmented upload between its steps -/

section
variable (node : BitVec 7) (index : BitVec 16) (sub : Byte) (sized : Bool) (size : BitVec 32) (data : List Byte)

/-- The size the server announces, 0 where it announces none (R203). -/
def announced : BitVec 32 := if sized = true then size else 0#32

/-- The record of a segmented upload that has asked for segment `j` (R203, R209). -/
def uploadAt (j : Nat) : Xfer :=
  { Xfer.x0 with
    st := .segmenting
    dir := .upload
    node := node
    index := index
    sub := sub
    toggle := decide (j % 2 = 1)
    total := announced sized size
    totalValid := sized
    remaining := BitVec.ofNat 32 ((announced sized size).toNat - 7 * j)
    buf := data.take (7 * j)
    bufLen := 7 * j }

/-- That record with what segment `j` carries appended (R207). -/
def uploadAppended (j : Nat) : Xfer :=
  appendSegment (uploadAt node index sub sized size data j) (segmentSize data j) (segmentData data j)

/-- The delivery of segment `j`. -/
def segmentDelivery (j : Nat) : Delivery := delivered (responseFrame node (segmentBytes data j))

/-- The accepted read, with its initiate response, has asked for segment 0 (R203). -/
theorem newUpload_started : { newUpload (node8 node) index sub with
    total := announced sized size
    totalValid := sized
    remaining := announced sized size
    st := .segmenting
    toggle := false } = uploadAt node index sub sized size data 0 := by
  have hnode : node7 (node8 node) = node := node7_node8 node
  have hrem : BitVec.ofNat 32 ((announced sized size).toNat - 7 * 0) = announced sized size :=
    BitVec.ofNat_toNat ..
  simp only [uploadAt, newUpload, hnode, hrem]
  rfl

theorem uploadAppended_buf (j : Nat) :
    (uploadAppended node index sub sized size data j).buf = data.take (7 * j + segmentSize data j) :=
  take_append_segmentData

theorem uploadAppended_bufLen (j : Nat) :
    (uploadAppended node index sub sized size data j).bufLen = 7 * j + segmentSize data j := rfl

variable {data}

/-- Turning the toggle is all that lies between accepting a segment and having asked for the next (R209). -/
theorem uploadAt_succ {j : Nat} (hmore : 7 * (j + 1) ≤ data.length) : uploadAt node index sub sized size data (j + 1) =
    { uploadAppended node index sub sized size data j with toggle := !(uploadAt node index sub sized size data j).toggle } := by
  have hsize : segmentSize data j = 7 := by
    unfold segmentSize
    omega
  have hlt := (announced sized size).isLt
  have hrem : BitVec.ofNat 32 ((announced sized size).toNat - 7 * (j + 1)) =
      BitVec.ofNat 32 ((BitVec.ofNat 32 ((announced sized size).toNat - 7 * j)).toNat - 7) := by
    congr 1
    rw [BitVec.toNat_ofNat]
    omega
  have hbuf : data.take (7 * (j + 1)) = data.take (7 * j) ++ (segmentData data j).toList.take 7 := by
    have happend := take_append_segmentData (data := data) (j := j)
    rw [hsize] at happend
    exact happend.symm
  simp only [uploadAt, uploadAppended, appendSegment, hsize, hrem, hbuf, toggle_succ]
  rfl

/-- The last segment completes the datum. -/
theorem uploadAppended_last {j : Nat} (hj : j + 1 = segmentCount data) :
    (uploadAppended node index sub sized size data j).buf = data ∧
      (uploadAppended node index sub sized size data j).bufLen = data.length := by
  have hend : 7 * j + segmentSize data j = data.length := by
    unfold segmentCount at hj
    unfold segmentSize
    omega
  rw [uploadAppended_buf, uploadAppended_bufLen, hend]
  exact ⟨List.take_length, rfl⟩

end

/-! ## Its steps -/

theorem encodeSdo_segmentedUploadRsp (index : BitVec 16) (sub : Byte) (sized : Bool) (size : BitVec 32):
    encodeSdo (.initUploadRsp 0#2 false sized index sub (bytesLe32 size)) =
    (⟨2#3 ++ 0#4 ++ BitVec.ofBool sized, index.extractLsb' 0 8, index.extractLsb' 8 8, sub, size.extractLsb' 0 8,
      size.extractLsb' 8 8, size.extractLsb' 16 8, size.extractLsb' 24 8⟩ : Bytes8).toList := by
  have hb0 : initDataByte 2#3 0#2 false sized = 2#3 ++ 0#4 ++ BitVec.ofBool sized := by
    revert sized
    decide
  simp only [encodeSdo, sdoCs, hb0]
  rfl

section
variable {cfg : Cfg} {node : BitVec 7} (index : BitVec 16) (sub : Byte) (sized : Bool) (size : BitVec 32) {data : List Byte}

/-- A segment with the current toggle, in a buffer with room for the datum (R207). -/
theorem exec_segmentRsp {u : State} {j : Nat} (hx : u.x = uploadAt node index sub sized size data j)
    (hfits : data.length ≤ u.cfg.bufMax) (hj : j < segmentCount data) :
    exec (.sdoUlSegRsp .rx node (decide (j % 2 = 1)) (BitVec.ofNat 3 (7 - segmentSize data j))
        (decide (j + 1 = segmentCount data)) (segmentData data j)) u = concludeRx u
      (if j + 1 = segmentCount data then .ok ({ uploadAppended node index sub sized size data j with st := .done }, none)
      else .ok ({ uploadAppended node index sub sized size data j with toggle := !decide (j % 2 = 1) },
        some (requestFrame node ⟨3#3 ++ BitVec.ofBool (!decide (j % 2 = 1)) ++ 0#4, 0#8, 0#8, 0#8, 0#8, 0#8, 0#8, 0#8⟩))) := by
  have hroom : ¬ u.cfg.bufMax < (uploadAt node index sub sized size data j).bufLen + segmentSize data j := by
    unfold segmentCount at hj
    simp only [uploadAt, segmentSize]
    omega
  have hexec := exec_uploadSegment (s := u) (by rw [hx]; rfl) (by rw [hx]; rfl) (BitVec.ofNat 3 (7 - segmentSize data j))
    (decide (j + 1 = segmentCount data)) (segmentData data j)
  simp only [segLen_segment hj, req_uploadSegReq, hx, if_neg hroom, decide_eq_true_eq] at hexec
  exact hexec

variable (hnode : node ≠ 0#7)
include hnode

theorem leads_read : Leads cfg .x0
    { ev := .cmd { cmdWord 2#3 with node := node.setWidth 8, index := index, sub := sub }, txOk := true }
    (newUpload (node8 node) index sub) (some (Message.sdoRequest (node8 node) (.initUploadReq index sub)).encode) := by
  refine leads_of_exec (i := .sdoRead (node8 node) index sub) rfl fun u _ hx hok => ⟨some .accepted, ?_⟩
  have hacc := execSdoRead_accepted (u := u) (index := index) (sub := sub) (by rw [hx]; rfl)
    (isNodeId_node8_of_ne_zero hnode)
  rwa [afterOffer_taken hok] at hacc

theorem leads_uploadStart (data : List Byte) : Leads cfg (newUpload (node8 node) index sub)
    (delivered (responseFrame node ⟨2#3 ++ 0#4 ++ BitVec.ofBool sized, index.extractLsb' 0 8, index.extractLsb' 8 8, sub,
      size.extractLsb' 0 8, size.extractLsb' 8 8, size.extractLsb' 16 8, size.extractLsb' 24 8⟩))
    (uploadAt node index sub sized size data 0) (some (requestFrame node (toggleBytes 3#3 0))) := by
  refine leads_of_exec (i := .sdoUlInitRsp .rx node 0#2 false sized index sub (bytesLe32 size))
    (decodeEvent_responseFrame hnode (cmd := .initUploadRsp 0#2 false sized index sub (bytesLe32 size)) rfl
      (encodeSdo_segmentedUploadRsp index sub sized size) rfl)
    fun u _ hx hok => ⟨none, ?_⟩
  have hnode7 : (newUpload (node8 node) index sub).node = node := node7_node8 node
  have hstart := segmentedUploadStarts u 0#2 sized (bytesLe32 size) (by rw [hx]; rfl) (by rw [hx]; rfl)
  have hsize : (if sized = true then (bytesLe32 size).b3 ++ (bytesLe32 size).b2 ++ (bytesLe32 size).b1 ++ (bytesLe32 size).b0
      else 0#32) = announced sized size := congrArg (if sized = true then · else 0#32) (le32_byteOf size)
  rw [hx, hnode7, afterOffer_taken hok, hsize] at hstart
  rw [← newUpload_started node index sub sized size data]
  exact hstart

theorem leads_segment (hfits : data.length ≤ cfg.bufMax) {j : Nat} (hj : j + 1 < segmentCount data) :
    Leads cfg (uploadAt node index sub sized size data j) (segmentDelivery node data j)
      (uploadAt node index sub sized size data (j + 1)) (some (requestFrame node (toggleBytes 3#3 (j + 1)))) := by
  refine leads_of_exec (decodeEvent_responseFrame hnode (cmd := segmentRsp data j) rfl (encodeSdo_segmentRsp data j) rfl)
    fun u hcfg hx hok => ⟨none, ?_⟩
  have hmore : 7 * (j + 1) ≤ data.length := by
    unfold segmentCount at hj
    omega
  rw [exec_segmentRsp index sub sized size hx (hcfg ▸ hfits) (by omega), if_neg (by omega), concludeRx_offer,
    afterOffer_taken hok, uploadAt_succ node index sub sized size hmore, toggleBytes, toggle_succ]
  rfl

theorem leads_lastSegment (hfits : data.length ≤ cfg.bufMax) {j : Nat} (hj : j + 1 = segmentCount data) :
    Leads cfg (uploadAt node index sub sized size data j) (segmentDelivery node data j)
      { uploadAppended node index sub sized size data j with st := .done } none := by
  refine leads_of_exec (decodeEvent_responseFrame hnode (cmd := segmentRsp data j) rfl (encodeSdo_segmentRsp data j) rfl)
    fun u hcfg hx hok => ⟨none, ?_⟩
  rw [exec_segmentRsp index sub sized size hx (hcfg ▸ hfits) (by omega), if_pos hj]
  exact concludeRx_silent ..

end

/-- Settles O60: the exchange of segment requests and segments, from the record `uploadAt 0` on. -/
theorem segmentedReadCollects : Obligations.SegmentedReadCollects := by
  intro s node index sub sized size data rest hcfg hx hnode hfits hin
  have hstart : Reaches s 2 _ _ _ :=
    ((reaches_zero hx _ hin).snoc (leads_read index sub hnode)).snoc (leads_uploadStart index sub sized size hnode data)
  have hall := hstart.exchange (r := uploadAt node index sub sized size data)
    (g := fun j => requestFrame node (toggleBytes 3#3 j)) fun j hj => leads_segment index sub sized size hnode hfits hj
  refine ⟨fun j hj => ?_, ?_⟩
  · obtain ⟨t, hrun, -, hxt, htx, -⟩ := hall j hj
    exact ⟨t, hrun, congrArg Xfer.st hxt, htx⟩
  · obtain ⟨m, hm⟩ : ∃ m, segmentCount data = m + 1 := ⟨segmentCount data - 1, by unfold segmentCount; omega⟩
    rw [hm] at hall ⊢
    obtain ⟨t, hrun, -, hxt, htx, hrest⟩ :=
      Reaches.exchange_last hall (leads_lastSegment index sub sized size hnode hfits hm.symm)
    have hresult : hostResult t.x = .bytes data := by
      obtain ⟨hbuf, hbufLen⟩ := uploadAppended_last node index sub sized size hm.symm
      have hdone := hostResult_upload (x := { uploadAppended node index sub sized size data m with st := .done })
        (hbufLen.trans (congrArg List.length hbuf).symm) rfl rfl
      rw [hxt, hdone]
      exact congrArg _ hbuf
    exact ⟨t, hrun, by rw [hxt], by rw [hxt]; rfl, htx, hresult, hrest⟩

end Sys2Proof.Machine
end
